-- ==== Sys2Proof/Word.lean ====
section
/-! DEFINITION. The word types of JDLINK (00_scope.md R11; 30_encoding.md R91). -/

namespace Sys2Proof

/-- One byte of a receive slot, or an 8-bit operand of an event (20_memory.md R70; 30_encoding.md R95). -/
abbrev Byte := BitVec 8

/-- The event word EVW that one step consumes (30_encoding.md R90, R91). -/
abbrev EventWord := BitVec 16

/-- The content of a register of the readable register map (10_state.md R52). -/
abbrev RegWord := BitVec 32

end Sys2Proof
end

