-- ==== Sys2Proof/Syntax.lean ====
section
/-! DEFINITION. The input events of JDLINK, one constructor per row of spec/opcode_table.json, and the
reasons an input is refused for. -/

namespace Sys2Proof

/-- The nine events of 30_encoding.md R92. An event is one atomic step (00_scope.md R3). -/
inductive Instr where
  /-- INIT (44_control.md R241). -/
  | init
  /-- LINE_FALL with WH, the outcome of the bounded line-high wait (41_rx.md R140; 30_encoding.md R94). -/
  | lineFall (wh : Bool)
  /-- RX_BYTE with the received byte (41_rx.md R142; 30_encoding.md R95). -/
  | rxByte (data : Byte)
  /-- RX_DONE with ERR, the transport error indication (41_rx.md R147; 30_encoding.md R99). -/
  | rxDone (err : Bool)
  /-- TIMER_FIRE (44_control.md R242). -/
  | timerFire
  /-- PACKET_READY (42_tx.md R184). -/
  | packetReady
  /-- TX_DONE with the informational error code (42_tx.md R185; 30_encoding.md R99). -/
  | txDone (code : BitVec 4)
  /-- REG_READ with the register byte address (44_control.md R243; 30_encoding.md R96). -/
  | regRead (addr : BitVec 8)
  /-- DIAG_SNAPSHOT (44_control.md R244). -/
  | diagSnapshot
deriving DecidableEq, Repr

/-- Why a step is REFUSED: the three reasons of 30_encoding.md R98 and the time regression of
44_control.md R240. -/
inductive RefuseReason where
  /-- Codes 0x0 and 0xA to 0xF (30_encoding.md R97). -/
  | reservedCode
  /-- A nonzero value in a field that 30_encoding.md R93 marks 0. -/
  | mustBeZero
  /-- A REG_READ address with bits [1:0] not zero (30_encoding.md R96). -/
  | misaligned
  /-- An event whose `now` is less than the latched `NOW` (44_control.md R240). -/
  | timeRegression
deriving DecidableEq, Repr

/-- One row of the opcode table: the words it matches are those with `w &&& mask = pattern`
(30_encoding.md R101). -/
structure OpcodeRow where
  mnemonic : String
  pattern : EventWord
  mask : EventWord
deriving DecidableEq, Repr

end Sys2Proof
end

