-- ==== Sys2Proof/WellFormed.lean ====
section
/-! DEFINITION. Which events have an encoding (30_encoding.md R93, R96). -/

namespace Sys2Proof

/-- A REG_READ address must be a multiple of 4 (30_encoding.md R96); every other operand value is admitted
(R94, R95, R99). -/
def Instr.wf : Instr → Bool
  | .init => true
  | .lineFall _ => true
  | .rxByte _ => true
  | .rxDone _ => true
  | .timerFire => true
  | .packetReady => true
  | .txDone _ => true
  | .regRead addr => addr.extractLsb' 0 2 == 0#2
  | .diagSnapshot => true

end Sys2Proof
end

