-- ==== Sys2Proof/Decode.lean ====
section
/-! DEFINITION. The decoder and the encoder of 16-bit event words (30_encoding.md R91 to R101). -/

namespace Sys2Proof

/-- `CODE = EVW[3:0]` (30_encoding.md R91). -/
def eventCode (w : EventWord) : BitVec 4 := w.extractLsb' 0 4

/-- `ARG = EVW[7:4]` (30_encoding.md R91). -/
def eventArg (w : EventWord) : BitVec 4 := w.extractLsb' 4 4

/-- `DATA = EVW[15:8]` (30_encoding.md R91). -/
def eventData (w : EventWord) : BitVec 8 := w.extractLsb' 8 8

/-- The word with these three fields (30_encoding.md R91). -/
def packEvent (data : BitVec 8) (arg code : BitVec 4) : EventWord := data ++ arg ++ code

/-- The event if its must-be-zero fields are zero, else the refusal that 30_encoding.md R98 names. -/
def acceptWhen (zero : Bool) (i : Instr) : Except RefuseReason Instr :=
  if zero then .ok i else .error .mustBeZero

/-- `Decode(EVW)` of 30_encoding.md R100, total on 16-bit words. A REG_READ word that has both a nonzero ARG
and a misaligned address is refused for its ARG (DESIGN CHOICE, log 5). -/
def decode (w : EventWord) : Except RefuseReason Instr :=
  let arg := eventArg w
  let data := eventData w
  match (eventCode w).toNat with
  | 1 => acceptWhen (arg == 0#4 && data == 0#8) .init
  | 2 => acceptWhen (arg.extractLsb' 1 3 == 0#3 && data == 0#8) (.lineFall (arg.getLsbD 0))
  | 3 => acceptWhen (arg == 0#4) (.rxByte data)
  | 4 => acceptWhen (arg.extractLsb' 1 3 == 0#3 && data == 0#8) (.rxDone (arg.getLsbD 0))
  | 5 => acceptWhen (arg == 0#4 && data == 0#8) .timerFire
  | 6 => acceptWhen (arg == 0#4 && data == 0#8) .packetReady
  | 7 => acceptWhen (data == 0#8) (.txDone arg)
  | 8 =>
    if arg == 0#4 then
      if data.extractLsb' 0 2 == 0#2 then .ok (.regRead data) else .error .misaligned
    else .error .mustBeZero
  | 9 => acceptWhen (arg == 0#4 && data == 0#8) .diagSnapshot
  | _ => .error .reservedCode

/-- A one-bit operand in `ARG[0]`, with `ARG[3:1]` zero (30_encoding.md R93). -/
def argOfBit (b : Bool) : BitVec 4 := 0#3 ++ BitVec.ofBool b

/-- The event word of an event, from the pattern column of 30_encoding.md R93. -/
def encode : Instr → EventWord
  | .init => packEvent 0#8 0#4 0x1#4
  | .lineFall wh => packEvent 0#8 (argOfBit wh) 0x2#4
  | .rxByte data => packEvent data 0#4 0x3#4
  | .rxDone err => packEvent 0#8 (argOfBit err) 0x4#4
  | .timerFire => packEvent 0#8 0#4 0x5#4
  | .packetReady => packEvent 0#8 0#4 0x6#4
  | .txDone code => packEvent 0#8 code 0x7#4
  | .regRead addr => packEvent addr 0#4 0x8#4
  | .diagSnapshot => packEvent 0#8 0#4 0x9#4

/-- The match and mask of each event (30_encoding.md R101). -/
def Instr.row : Instr → OpcodeRow
  | .init => ⟨"INIT", 0x0001#16, 0xFFFF#16⟩
  | .lineFall _ => ⟨"LINE_FALL", 0x0002#16, 0xFFEF#16⟩
  | .rxByte _ => ⟨"RX_BYTE", 0x0003#16, 0x00FF#16⟩
  | .rxDone _ => ⟨"RX_DONE", 0x0004#16, 0xFFEF#16⟩
  | .timerFire => ⟨"TIMER_FIRE", 0x0005#16, 0xFFFF#16⟩
  | .packetReady => ⟨"PACKET_READY", 0x0006#16, 0xFFFF#16⟩
  | .txDone _ => ⟨"TX_DONE", 0x0007#16, 0xFF0F#16⟩
  | .regRead _ => ⟨"REG_READ", 0x0008#16, 0x03FF#16⟩
  | .diagSnapshot => ⟨"DIAG_SNAPSHOT", 0x0009#16, 0xFFFF#16⟩

/-- The nine rows of the opcode table, in the order of 30_encoding.md R101. -/
def opcodeTable : List OpcodeRow :=
  [Instr.init.row, (Instr.lineFall true).row, (Instr.rxByte 0#8).row, (Instr.rxDone true).row,
    Instr.timerFire.row, Instr.packetReady.row, (Instr.txDone 0#4).row, (Instr.regRead 0#8).row,
    Instr.diagSnapshot.row]

/-- `(EVW AND mask) = match` (30_encoding.md R100). -/
def OpcodeRow.admits (r : OpcodeRow) (w : EventWord) : Bool := w &&& r.mask == r.pattern

/-- The event that the decoder reads from an instruction whose bits are `w`, of which the table gives the low
`nbits` and every bit above is 0. An event is one 16-bit word (30_encoding.md R91); there is no byte
order to choose, because the word is an input of the step and is not stored in memory (log 25). -/
def decodeTableWord (nbits w : Nat) : Option Instr :=
  match decode (BitVec.ofNat 16 (w % 2 ^ nbits)) with
  | .ok i => some i
  | .error _ => none

end Sys2Proof
end

