-- ==== Sys2Proof/Config.lean ====
section
/-! DEFINITION. The parameters of 00_scope.md R8, and the one uninterpreted function behind `CRC16`. -/

namespace Sys2Proof

/-- A 16-bit function of a byte sequence about which nothing is known but that it depends on the bytes
alone (00_scope.md R10). `Config.crc16 n` is a different unknown function for each `n`. Log 7. -/
opaque Config.crc16 : Nat → List Byte → BitVec 16

/-- The value of the parameter `CRC16` (00_scope.md R8, R10). Log 7. -/
inductive CrcChoice where
  /-- The default of R8: polynomial 0x1021, initial value 0xFFFF, no reflection, no final XOR. -/
  | ccittFalse
  /-- Any other function: the uninterpreted `Config.crc16 id`. -/
  | uninterpreted (id : Nat)
deriving DecidableEq, Repr

/-- The named parameters of 00_scope.md R8. They are fixed before reset and never change
(70_reset_and_hazards.md R292 item 1; log 6). A time is an unbounded number of µs (00_scope.md R11; log 13). -/
structure Params where
  /-- `RX_SLOT_BYTES`: capacity of each receive slot in bytes. -/
  rxSlotBytes : Nat
  /-- `SIZE_OFFSET`: byte offset of the length field in a frame. -/
  sizeOffset : Nat
  /-- `FRAME_SIZE_BIAS`: added to the length-field byte to give the frame size. -/
  frameSizeBias : Nat
  /-- `CRC16`: the checksum function. -/
  crc : CrcChoice
  /-- `HDR_GUARD_US`: header guard delay after reception is armed. -/
  hdrGuardUs : Nat
  /-- `RX_US_PER_BYTE`: slope of the full-frame timeout. -/
  rxUsPerByte : Nat
  /-- `RX_MARGIN_US`: fixed margin of the full-frame timeout. -/
  rxMarginUs : Nat
  /-- `TICK_US`: heartbeat period. -/
  tickUs : Nat
  /-- `ARB_NOMINAL_US`: nominal arbitration delay. -/
  arbNominalUs : Nat
  /-- `ARB_JITTER_US`: half-width of the arbitration delay jitter. -/
  arbJitterUs : Nat
  /-- `WR_OVERHEAD_US`: correction subtracted from the arbitration delay. -/
  wrOverheadUs : Nat
  /-- `ANN_INTERVAL_US`: fixed announce interval. -/
  annIntervalUs : Nat
  /-- `ANN_JITTER_MAX_US`: largest announce jitter. -/
  annJitterMaxUs : Nat
  /-- `ANN_CNT_MOD`: modulus of the rolling announce-throttle counter. -/
  annCntMod : Nat
  /-- `LINE_HIGH_WAIT_MAX_US`: describes when the environment reports WH = 0; no rule computes with it. -/
  lineHighWaitMaxUs : Nat
  /-- `TX_LOW_PULSE_US`: OPEN in the spec (`none`); no rule computes with it. Log 22. -/
  txLowPulseUs : Option Nat
  /-- `CNT_W`: width of each diagnostics counter in bits. -/
  cntW : Nat
deriving DecidableEq, Repr

/-- The default column of 00_scope.md R8, which the spec's test vectors use. -/
def Params.default : Params where
  rxSlotBytes := 259
  sizeOffset := 2
  frameSizeBias := 4
  crc := .ccittFalse
  hdrGuardUs := 100
  rxUsPerByte := 12
  rxMarginUs := 60
  tickUs := 10000
  arbNominalUs := 150
  arbJitterUs := 50
  wrOverheadUs := 10
  annIntervalUs := 499000
  annJitterMaxUs := 2000
  annCntMod := 256
  lineHighWaitMaxUs := 1000
  txLowPulseUs := none
  cntW := 32

end Sys2Proof
end

