-- ==== Sys2Proof/Machine/State.lean ====
section
/-! DEFINITION. The state of JDLINK (10_state.md R30 to R47), the inputs and the observation of a step
(30_encoding.md R90), the reasons a step of the model stops, and the reset state
(70_reset_and_hazards.md R290). -/

namespace Sys2Proof.Machine

/-- The index of a receive slot, 0 or 1 (10_state.md R38). -/
inductive SlotIx where
  | s0
  | s1
deriving DecidableEq, Repr

/-- The timer kinds of 10_state.md R44. The encodings 5 to 7 are never written, so they have no constructor
(93_implementation_defined.md I19; log 14). -/
inductive TimerKind where
  /-- 0: no timer armed. -/
  | none
  /-- 1: `CheckAnnounce` then `TickSched` (43_announce.md R222). -/
  | heartbeat
  /-- 2: `ArbPulse` (42_tx.md R183). -/
  | pulse
  /-- 3: the header guard (41_rx.md R144). -/
  | hdrGuard
  /-- 4: the full-frame timeout (41_rx.md R145). -/
  | rxDeadline
deriving DecidableEq, Repr

/-- A transmit frame as JDLINK knows it: the pair `(h, len)` of 10_state.md R36, an opaque handle that JDLINK never
computes with and a length (log 13). -/
structure TxFrame where
  handle : Nat
  len : Nat
deriving DecidableEq, Repr

/-- The answer of `UartTxStart` (00_scope.md R16). -/
inductive StartAnswer where
  | ok
  | fail
deriving DecidableEq, Repr

/-- The answer of `AppDispatch` (00_scope.md R16). -/
inductive DispatchAnswer where
  | accepted
  | rejected
deriving DecidableEq, Repr

/-- The fatal fault codes (60_exceptions.md R261). -/
inductive FatalCode where
  | rxReentry
deriving DecidableEq, Repr

/-- The non-fatal fault codes (60_exceptions.md R261). -/
inductive NonFatalCode where
  | rxTimeout
  | rxUart
  | rxShort
  | rxCrc
  | txRace
deriving DecidableEq, Repr

/-- The output actions of a step (00_scope.md R17). -/
inductive Action where
  | uartInit
  | uartRxStart (s : SlotIx) (cap : Nat)
  | uartRxAbort
  | lowPulse
  | uartTxStart (h : Nat) (len : Nat)
  | appPull
  | appDispatch (s : SlotIx) (n : Nat)
  | appFrameSent (h : Nat)
  | appAnnounceReq
  | faultNonFatal (code : NonFatalCode)
  | faultFatal (code : FatalCode)
  | readData (v : RegWord)
deriving DecidableEq, Repr

/-- The outcome of a step (44_control.md R245). -/
inductive StepOutcome where
  /-- No event was processed: the state after reset, or a step with no event pending (log 2). -/
  | idle
  | refused (r : RefuseReason)
  | ignored
  | fatal (code : FatalCode)
  | acted
deriving DecidableEq, Repr

/-- Everything the environment supplies to one step (30_encoding.md R90): the event word, the timestamp, the
oracle answers (00_scope.md R16) and the draws (R15). A step asks at most once for each answer and each
draw, so one of each kind is held (log 9). A draw is held as an offset from the low end of its range, taken
modulo the number of values in the range (log 8). -/
structure Input where
  word : EventWord
  now : Nat
  /-- The answer of `AppPull`: `NONE` or a frame. -/
  pull : Option TxFrame
  /-- The answer of `UartTxStart`. -/
  start : StartAnswer
  /-- The answer of `AppDispatch`. -/
  accept : DispatchAnswer
  /-- The draw of `draw_around`. -/
  around : Nat
  /-- The draw of `draw_jitter`. -/
  jitter : Nat
deriving DecidableEq, Repr

/-- The bytes of one receive slot: cells (offset, byte), offsets strictly rising, none listed with the value
an unlisted offset reads as, which is 0 (70_reset_and_hazards.md R290; log 21). -/
abbrev Memory := List Host.Cell

/-- The state of JDLINK: one record (10_state.md R30). The fields `rxActive` to `refusalMark` are the spec's;
`par` holds the parameters; the last four are the model's own (log 1, 24). -/
structure State where
  /-- The parameters of 00_scope.md R8. No step writes them (70_reset_and_hazards.md R292). -/
  par : Params
  /-- `RX_ACTIVE` (10_state.md R32). -/
  rxActive : Bool
  /-- `TX_ACTIVE` (10_state.md R33). -/
  txActive : Bool
  /-- `TX_QUEUED` (10_state.md R34). -/
  txQueued : Bool
  /-- `TX_PENDING` (10_state.md R35). -/
  txPending : Bool
  /-- `TX_FRAME` (10_state.md R36). -/
  txFrame : Option TxFrame
  /-- `RX_SLOT[0]` (10_state.md R37). -/
  rxSlot0 : Memory
  /-- `RX_SLOT[1]` (10_state.md R37). -/
  rxSlot1 : Memory
  /-- `ACTIVE_SLOT` (10_state.md R38). -/
  activeSlot : SlotIx
  /-- `RX_COUNT` (10_state.md R39). -/
  rxCount : Nat
  /-- `ANN_DEADLINE` (10_state.md R40); 0 is the sentinel "never yet armed". -/
  annDeadline : Nat
  /-- `ANN_CNT` (10_state.md R41). -/
  annCnt : Nat
  /-- `PACKETS_RECEIVED` (10_state.md R42), `CNT_W` bits held in 32 (log 20). -/
  packetsReceived : RegWord
  /-- `PACKETS_DROPPED` (10_state.md R42). -/
  packetsDropped : RegWord
  /-- `BUS_LO_ERROR` (10_state.md R42). -/
  busLoError : RegWord
  /-- `BUS_TIMEOUT_ERROR` (10_state.md R42). -/
  busTimeoutError : RegWord
  /-- `BUS_UART_ERROR` (10_state.md R42). -/
  busUartError : RegWord
  /-- `BUS_STATE` (10_state.md R43): reserved; no rule writes it (log 19). -/
  busState : RegWord
  /-- `TMR_KIND` (10_state.md R44). -/
  tmrKind : TimerKind
  /-- `TMR_DEADLINE` (10_state.md R44). -/
  tmrDeadline : Nat
  /-- `INITIALIZED` (10_state.md R45). -/
  initialized : Bool
  /-- `HALTED` (10_state.md R46). -/
  halted : Bool
  /-- `NOW` (10_state.md R47), in µs, unbounded as every time and length (log 13). -/
  now : Nat
  /-- The run's sticky refusal mark (30_encoding.md R98; 70_reset_and_hazards.md R290). -/
  refusalMark : Bool
  /-- The inputs of the current step (30_encoding.md R90). -/
  input : Input
  /-- The events that the environment delivers next, oldest first. -/
  pending : List Input
  /-- The output list of the last step, in emission order (00_scope.md R17). -/
  out : List Action
  /-- The outcome of the last step (44_control.md R245). -/
  outcome : StepOutcome
deriving DecidableEq, Repr

/-- What stops the model with a fault. Both cases are ones the spec shows can not arise in a run. -/
inductive Fault where
  /-- Raised by an access to a receive slot at an offset outside `0 .. RX_SLOT_BYTES - 1`, which 20_memory.md
  R70 says is never formed. Safe: the model stops and claims nothing (log 12). -/
  | slotOffset
  /-- Raised by TX_DONE with `TX_ACTIVE = 1` and `TX_FRAME = NONE`, which 10_state.md R56 item 3 rules out and
  for which 42_tx.md R185 gives no handle. Safe: the model stops and claims nothing (log 11). -/
  | noTxFrame
deriving DecidableEq, Repr

/-- What the model has no meaning for. -/
inductive Refusal where
  /-- An event whose meaning is not written. Safe; no arm of `exec` answers it. -/
  | notModelled (mnemonic : String)
  /-- Raised by `step` in a state whose parameters break 00_scope.md R9: "A model must reject a parameter set
  that breaks one". Safe (log 6). -/
  | invalidParameters
deriving DecidableEq, Repr

/-- The answer of a meaning. -/
abbrev Result := Host.Outcome State Fault Refusal

/-- The inputs held right after reset, before any event: the model's own choice (DESIGN CHOICE, log 10). -/
def Input.atReset : Input where
  word := 0#16
  now := 0
  pull := none
  start := .ok
  accept := .accepted
  around := 0
  jitter := 0

/-- The state after power-on reset, the table of 70_reset_and_hazards.md R290, with the default parameters of
00_scope.md R8 (log 6) and the model's own fields at the values log 10 names. -/
def State.reset : State where
  par := Params.default
  rxActive := false
  txActive := false
  txQueued := false
  txPending := false
  txFrame := none
  rxSlot0 := []
  rxSlot1 := []
  activeSlot := .s0
  rxCount := 0
  annDeadline := 0
  annCnt := 0
  packetsReceived := 0#32
  packetsDropped := 0#32
  busLoError := 0#32
  busTimeoutError := 0#32
  busUartError := 0#32
  busState := 0#32
  tmrKind := .none
  tmrDeadline := 0
  initialized := false
  halted := false
  now := 0
  refusalMark := false
  input := Input.atReset
  pending := []
  out := []
  outcome := .idle

end Sys2Proof.Machine
end

