-- ==== Sys2Proof/Machine/Flags.lean ====
section
/-! DEFINITION. The derived signals, the state-machine phases and the readable register map
(10_state.md R44, R48 to R54). -/

namespace Sys2Proof.Machine

/-- `BUSY = RX_ACTIVE OR TX_ACTIVE OR TX_QUEUED`, the bus-busy detector (10_state.md R48). -/
def State.busy (s : State) : Bool := s.rxActive || s.txActive || s.txQueued

/-- `STARTED = (ANN_DEADLINE != 0)` (10_state.md R49). -/
def State.started (s : State) : Bool := s.annDeadline != 0

/-- The STATUS register (10_state.md R53). -/
def State.status (s : State) : RegWord :=
  0#25 ++ BitVec.ofBool s.initialized ++ BitVec.ofBool s.halted ++ BitVec.ofBool s.started ++
    BitVec.ofBool s.busy ++ BitVec.ofBool s.txQueued ++ BitVec.ofBool s.txActive ++
    BitVec.ofBool s.rxActive

/-- What BUS_STATE reads as: 0, whatever the reserved field holds (10_state.md R43; 44_control.md R243;
log 19). -/
def busStateRead (_ : State) : RegWord := 0#32

/-- `RegValue(a)` (44_control.md R243): the register map of 10_state.md R52. An aligned address with no register
reads as zero (R54). -/
def regValue (s : State) (a : BitVec 8) : RegWord :=
  if a = 0x00#8 then s.status
  else if a = 0x04#8 then busStateRead s
  else if a = 0x08#8 then s.packetsReceived
  else if a = 0x0C#8 then s.packetsDropped
  else if a = 0x10#8 then s.busLoError
  else if a = 0x14#8 then s.busTimeoutError
  else if a = 0x18#8 then s.busUartError
  else 0#32

/-- The addresses DIAG_SNAPSHOT reads, in address order (44_control.md R244). -/
def snapshotAddrs : List (BitVec 8) := [0x00#8, 0x04#8, 0x08#8, 0x0C#8, 0x10#8, 0x14#8, 0x18#8]

/-- The 3-bit encoding of TMR_KIND (10_state.md R44). -/
def timerCode : TimerKind → BitVec 3
  | .none => 0#3
  | .heartbeat => 1#3
  | .pulse => 2#3
  | .hdrGuard => 3#3
  | .rxDeadline => 4#3

/-- RX phase IDLE between steps (10_state.md R50). -/
def State.rxIdle (s : State) : Bool := !s.rxActive

/-- RX phase RECEIVING between steps (10_state.md R50). -/
def State.rxReceiving (s : State) : Bool := s.rxActive

/-- The header-wait sub-phase of RECEIVING (10_state.md R50). -/
def State.rxHeaderWait (s : State) : Bool := s.rxActive && s.tmrKind == .hdrGuard

/-- The body-wait sub-phase of RECEIVING (10_state.md R50). -/
def State.rxBodyWait (s : State) : Bool := s.rxActive && s.tmrKind == .rxDeadline

/-- TX phase TRANSMITTING (10_state.md R51). -/
def State.txTransmitting (s : State) : Bool := s.txActive

/-- TX phase ARBITRATING (10_state.md R51). -/
def State.txArbitrating (s : State) : Bool := !s.txActive && s.tmrKind == .pulse

/-- TX phase QUEUED (10_state.md R51). -/
def State.txQueuedPhase (s : State) : Bool := !s.txActive && s.txPending && s.tmrKind != .pulse

/-- TX phase IDLE (10_state.md R51). -/
def State.txIdle (s : State) : Bool := !s.txActive && !s.txPending

end Sys2Proof.Machine
end

