-- ==== Sys2Proof/Machine/Memory.lean ====
section
/-! DEFINITION. One receive slot as a list of cells in canonical form, and the operations on it
(20_memory.md R70; log 21). -/

namespace Sys2Proof.Machine

/-- What an offset that no cell lists reads as: every byte of a slot is 0 after reset
(70_reset_and_hazards.md R290), and LINE_FALL zeroes a slot again (41_rx.md R140). -/
def resetByte : Byte := 0#8

/-- The byte at an offset. -/
def readCell : Memory → Nat → Byte
  | [], _ => resetByte
  | (a, b) :: m, i => if a = i then b else readCell m i

/-- The slot after the byte `b` is written at offset `i`. Writing `resetByte` takes the cell away, so the
canonical form is kept. -/
def writeCell : Memory → Nat → Byte → Memory
  | [], i, b => if b = resetByte then [] else [(i, b)]
  | (a, c) :: m, i, b =>
    if i < a then (if b = resetByte then (a, c) :: m else (i, b) :: (a, c) :: m)
    else if i = a then (if b = resetByte then m else (i, b) :: m)
    else (a, c) :: writeCell m i b

/-- The slot after 0 is written at every offset below `n`: none of them is listed any more. -/
def clearBelow (m : Memory) (n : Nat) : Memory := m.filter fun c => decide (n ≤ c.1)

/-- The canonical form: offsets strictly rising, and no cell that holds what an unlisted offset reads as. -/
abbrev Memory.wf (m : Memory) : Prop :=
  (m.map Prod.fst).Pairwise (· < ·) ∧ ∀ c ∈ m, c.2 ≠ resetByte

/-- Every listed offset lies in a slot of `n` bytes (20_memory.md R70). -/
abbrev Memory.within (m : Memory) (n : Nat) : Prop := ∀ c ∈ m, c.1 < n

end Sys2Proof.Machine
end

