-- ==== Sys2Proof/Machine/Operands.lean ====
section
/-! DEFINITION. The inputs of a step other than the event word: the draws of 00_scope.md R15 and the oracle
answers of R16, and the index of the other receive slot. -/

namespace Sys2Proof.Machine

/-- `draw_around(N, J)`: a value in `[N - J, N + J]` (00_scope.md R15), the low end plus the held offset modulo
the `2 * J + 1` values of the range. Every value of the range is reached by some offset (log 8). -/
def drawAround (s : State) (n j : Nat) : Nat := n - j + s.input.around % (2 * j + 1)

/-- `draw_jitter(M)`: a value in `[0, M]` (00_scope.md R15; log 8). -/
def drawJitter (s : State) (m : Nat) : Nat := s.input.jitter % (m + 1)

/-- The answer of `AppPull` in this step (00_scope.md R16). -/
def pullAnswer (s : State) : Option TxFrame := s.input.pull

/-- The answer of `UartTxStart` in this step (00_scope.md R16). -/
def startAnswer (s : State) : StartAnswer := s.input.start

/-- The answer of `AppDispatch` in this step (00_scope.md R16). -/
def acceptAnswer (s : State) : DispatchAnswer := s.input.accept

/-- `1 - s` for a slot index (10_state.md R38). -/
def SlotIx.other : SlotIx → SlotIx
  | .s0 => .s1
  | .s1 => .s0

end Sys2Proof.Machine
end

