-- ==== Sys2Proof/Machine/Params.lean ====
section
/-! DEFINITION. The constraints on the parameters (00_scope.md R9). -/

namespace Sys2Proof

/-- The six constraints of 00_scope.md R9, in its order. `step` refuses a state whose parameters break one
(log 6). -/
def Params.valid (p : Params) : Bool :=
  decide (4 ≤ p.frameSizeBias) &&
  decide (p.sizeOffset + 1 ≤ p.rxSlotBytes) &&
  decide (p.arbJitterUs + p.wrOverheadUs ≤ p.arbNominalUs) &&
  (decide (1 ≤ p.tickUs) && decide (1 ≤ p.hdrGuardUs) && decide (1 ≤ p.annIntervalUs)) &&
  decide (1 ≤ p.annCntMod) &&
  (decide (1 ≤ p.cntW) && decide (p.cntW ≤ 32))

end Sys2Proof
end

