-- ==== Sys2Proof/Machine/Ops.lean ====
section
/-! DEFINITION. The named operations on the state: slot memory, outputs, the timer slot, the counters, taking
a fault, refusing an input, and the prologue every event runs behind. -/

namespace Sys2Proof.Machine

/-- The memory of receive slot `ix` (20_memory.md R70). -/
def State.slot (s : State) : SlotIx → Memory
  | .s0 => s.rxSlot0
  | .s1 => s.rxSlot1

/-- The state with the memory of receive slot `ix` replaced. -/
def State.setSlot (s : State) (ix : SlotIx) (m : Memory) : State :=
  match ix with
  | .s0 => { s with rxSlot0 := m }
  | .s1 => { s with rxSlot1 := m }

/-- The byte at offset `i` of slot `ix`. The application sees a dispatched slot through this (20_memory.md R79;
log 26). -/
def State.slotByte (s : State) (ix : SlotIx) (i : Nat) : Byte := readCell (s.slot ix) i

/-- `MemRead(s, i, 1)` (00_scope.md R13), a fault outside the slot (log 12). -/
def memReadByte (s : State) (ix : SlotIx) (i : Nat) : Except Fault Byte :=
  if i < s.par.rxSlotBytes then .ok (s.slotByte ix i) else .error .slotOffset

/-- `MemRead(s, i, n)` (00_scope.md R13), a fault when an offset lies outside the slot (log 12). -/
def memRead (s : State) (ix : SlotIx) (i n : Nat) : Except Fault (List Byte) :=
  if i + n ≤ s.par.rxSlotBytes then .ok ((List.range n).map fun k => s.slotByte ix (i + k))
  else .error .slotOffset

/-- `MemWrite(s, i, b)` (00_scope.md R13), a fault outside the slot (log 12). -/
def memWrite (s : State) (ix : SlotIx) (i : Nat) (b : Byte) : Except Fault State :=
  if i < s.par.rxSlotBytes then .ok (s.setSlot ix (writeCell (s.slot ix) i b)) else .error .slotOffset

/-- The loop of `RX_SLOT_BYTES` writes of 0 in LINE_FALL (41_rx.md R140). -/
def zeroSlot (s : State) (ix : SlotIx) : State :=
  s.setSlot ix (clearBelow (s.slot ix) s.par.rxSlotBytes)

/-- `le16(s, i)`: little-endian (00_scope.md R13; 20_memory.md R73). -/
def le16 (s : State) (ix : SlotIx) (i : Nat) : Except Fault Nat :=
  match memReadByte s ix i, memReadByte s ix (i + 1) with
  | .ok lo, .ok hi => .ok (lo.toNat + 256 * hi.toNat)
  | .error f, _ => .error f
  | _, .error f => .error f

/-- `emit A` (00_scope.md R17). -/
def State.emit (s : State) (a : Action) : State := { s with out := s.out ++ [a] }

/-- `ArmTimer(k, t)`: replaces any armed timer (00_scope.md R14; 10_state.md R44). -/
def State.armTimer (s : State) (k : TimerKind) (t : Nat) : State :=
  { s with tmrKind := k, tmrDeadline := t }

/-- A counter of `w` bits plus 1 modulo `2 ^ w`, held in 32 bits (10_state.md R42; log 20). -/
def bumpCounter (w : Nat) (c : RegWord) : RegWord := BitVec.ofNat 32 ((c.toNat + 1) % 2 ^ w)

/-- `PACKETS_RECEIVED` goes up by 1 (10_state.md R42). -/
def State.countReceived (s : State) : State :=
  { s with packetsReceived := bumpCounter s.par.cntW s.packetsReceived }

/-- `PACKETS_DROPPED` goes up by 1 (10_state.md R42). -/
def State.countDropped (s : State) : State :=
  { s with packetsDropped := bumpCounter s.par.cntW s.packetsDropped }

/-- `BUS_LO_ERROR` goes up by 1 (10_state.md R42). -/
def State.countLoError (s : State) : State :=
  { s with busLoError := bumpCounter s.par.cntW s.busLoError }

/-- `BUS_TIMEOUT_ERROR` goes up by 1 (10_state.md R42). -/
def State.countTimeoutError (s : State) : State :=
  { s with busTimeoutError := bumpCounter s.par.cntW s.busTimeoutError }

/-- `BUS_UART_ERROR` goes up by 1 (10_state.md R42). -/
def State.countUartError (s : State) : State :=
  { s with busUartError := bumpCounter s.par.cntW s.busUartError }

/-- The number of a fatal code (60_exceptions.md R261). -/
def fatalNumber : FatalCode → Nat
  | .rxReentry => 1

/-- The number of a non-fatal code (60_exceptions.md R261). -/
def nonFatalNumber : NonFatalCode → Nat
  | .rxTimeout => 1
  | .rxUart => 2
  | .rxShort => 3
  | .rxCrc => 4
  | .txRace => 5

/-- Non-fatal fault entry: `signal NonFatal(code)` emits and the step goes on (60_exceptions.md R263). -/
def State.signalNonFatal (s : State) (c : NonFatalCode) : State := s.emit (.faultNonFatal c)

/-- Fatal fault entry: `raise Fatal(code)` sets HALTED, emits, and ends the step (60_exceptions.md R264). There is
no return from it: only reset clears HALTED (R265; log 18). -/
def State.raiseFatal (s : State) (c : FatalCode) : State :=
  { s.emit (.faultFatal c) with halted := true, outcome := .fatal c }

/-- The outcome IGNORED (44_control.md R245, R246). -/
def State.ignored (s : State) : State := { s with outcome := .ignored }

/-- The outcome REFUSED(reason): nothing changes but the run's sticky mark, and nothing is emitted
(30_encoding.md R98; 44_control.md R245; log 4). -/
def State.markRefused (s : State) (r : RefuseReason) : State :=
  { s with out := [], outcome := .refused r, refusalMark := true }

/-- The start of a step: its output list is empty, and its outcome is ACTED unless its rule says otherwise
(44_control.md R245). -/
def State.begin (s : State) : State := { s with out := [], outcome := .acted }

/-- `st.NOW <- now` (44_control.md R240). -/
def State.latchNow (s : State) : State := { s with now := s.input.now }

/-- The environment delivers one event with its inputs (30_encoding.md R90; log 1). -/
def State.deliver (s : State) (inp : Input) (rest : List Input) : State :=
  { s with input := inp, pending := rest }

/-- No event is pending: the machine waits (70_reset_and_hazards.md R291; log 2). -/
def State.waitIdle (s : State) : State := { s with out := [], outcome := .idle }

/-- The prologue of 44_control.md R240, for an event that is already decoded: the time-regression check, the HALTED
filter (NOW is not latched), the NOW latch, and the INITIALIZED filter. `whileHalted` and `beforeInit` say
whether the event passes the two filters. -/
def runEvent (whileHalted beforeInit : Bool) (body : State → Result) (s : State) : Result :=
  if s.input.now < s.now then .next (s.markRefused .timeRegression)
  else if s.halted then
    if whileHalted then body s.begin else .next s.begin.ignored
  else if s.initialized || beforeInit then body s.begin.latchNow
  else .next s.begin.latchNow.ignored

end Sys2Proof.Machine
end

