-- ==== Sys2Proof/Machine/Codec.lean ====
section
/-! DEFINITION. The frame codec: frame size and CRC validation (40_frame_codec.md R120 to R126). -/

namespace Sys2Proof.Machine

/-- One bit of the default CRC16: shift left, and subtract the polynomial 0x1021 when a 1 leaves
(00_scope.md R8). -/
def crcShift (crc : BitVec 16) : BitVec 16 :=
  if crc.msb then (crc <<< 1) ^^^ 0x1021#16 else crc <<< 1

/-- `crcShift` applied `n` times. -/
def crcShifts : Nat → BitVec 16 → BitVec 16
  | 0, crc => crc
  | n + 1, crc => crcShifts n (crcShift crc)

/-- One byte of the default CRC16. -/
def crcByte (crc : BitVec 16) (b : Byte) : BitVec 16 := crcShifts 8 (crc ^^^ (b ++ 0#8))

/-- The default CRC16: CRC-16/CCITT-FALSE (00_scope.md R8, R10; the spec takes it from general knowledge,
93_implementation_defined.md G1). -/
def crcCcittFalse (bs : List Byte) : BitVec 16 := bs.foldl crcByte 0xFFFF#16

/-- `CRC16` (00_scope.md R10): the default, or an uninterpreted function (log 7). -/
def crc16 : CrcChoice → List Byte → BitVec 16
  | .ccittFalse, bs => crcCcittFalse bs
  | .uninterpreted id, bs => Config.crc16 id bs

/-- `FrameSize(s)` (40_frame_codec.md R120). -/
def frameSize (s : State) (ix : SlotIx) : Except Fault Nat :=
  match memReadByte s ix s.par.sizeOffset with
  | .ok b => .ok (b.toNat + s.par.frameSizeBias)
  | .error f => .error f

/-- The three answers of `Validate` (40_frame_codec.md R123). -/
inductive Verdict where
  | ok
  | tooShort
  | crcMismatch
deriving DecidableEq, Repr

/-- `Validate(s, n)` (40_frame_codec.md R123): the length check comes first, so one failure is reported. -/
def validate (s : State) (ix : SlotIx) (n : Nat) : Except Fault Verdict :=
  match frameSize s ix with
  | .error f => .error f
  | .ok fs =>
    if n < fs then .ok .tooShort
    else
      match memRead s ix 2 (fs - 2), le16 s ix 0 with
      | .ok body, .ok header =>
        if (crc16 s.par.crc body).toNat = header then .ok .ok else .ok .crcMismatch
      | .error f, _ => .error f
      | _, .error f => .error f

end Sys2Proof.Machine
end

