-- ==== Sys2Proof/Machine/Sched.lean ====
section
/-! DEFINITION. The tick scheduler (42_tx.md R180) and the announce scheduler (43_announce.md R220 to R222). -/

namespace Sys2Proof.Machine

/-- `TickSched()`, the central re-arm point (42_tx.md R180). -/
def tickSched (s : State) : State :=
  if s.rxActive then s
  else if s.txPending && !s.txActive then
    { s with txQueued := true }.armTimer .pulse
      (s.now + drawAround s s.par.arbNominalUs s.par.arbJitterUs - s.par.wrOverheadUs)
  else { s with txQueued := false }.armTimer .heartbeat (s.now + s.par.tickUs)

/-- `st.ANN_DEADLINE <- st.NOW + ANN_INTERVAL_US + j` with `j` drawn from `[0, ANN_JITTER_MAX_US]`
(43_announce.md R220). -/
def armAnnounce (s : State) : State :=
  { s with annDeadline := s.now + s.par.annIntervalUs + drawJitter s s.par.annJitterMaxUs }

/-- `CheckAnnounce()` (43_announce.md R220): the first call only arms; "passed" is strict. -/
def checkAnnounce (s : State) : State :=
  if s.annDeadline = 0 then armAnnounce s
  else if s.annDeadline < s.now then armAnnounce (s.emit .appAnnounceReq)
  else s

/-- `AnnounceThrottle()` (43_announce.md R221). -/
def announceThrottle (s : State) : State :=
  let c := s.annCnt
  let s := { s with annCnt := (c + 1) % s.par.annCntMod }
  if c = 0 then checkAnnounce s else s

/-- `Heartbeat()` (43_announce.md R222). -/
def heartbeat (s : State) : State := tickSched (checkAnnounce s)

end Sys2Proof.Machine
end

