-- ==== Sys2Proof/Machine/Rx.lean ====
section
/-! DEFINITION. The serial frame receiver: LINE_FALL, RX_BYTE, RX_DONE and the two receive timers (41_rx.md R140
to R147). -/

namespace Sys2Proof.Machine

/-- `RxTimedOut()` (41_rx.md R146): the slot is not swapped and its bytes are kept. -/
def rxTimedOut (s : State) : State :=
  let s := (s.countTimeoutError.signalNonFatal .rxTimeout).emit .uartRxAbort
  tickSched { s with rxActive := false, rxCount := 0 }

/-- The start of a reception, with WH the result of the line-high wait: LINE_FALL after its two checks
(41_rx.md R140). -/
def armReception (wh : Bool) (s : State) : State :=
  let s := { zeroSlot { s with rxActive := true } s.activeSlot with rxCount := 0 }
  if wh then
    (s.emit (.uartRxStart s.activeSlot s.par.rxSlotBytes)).armTimer .hdrGuard (s.now + s.par.hdrGuardUs)
  else rxTimedOut s

/-- The rule of LINE_FALL (41_rx.md R140): fatal while receiving, masked while transmitting. -/
def lineFall (wh : Bool) (s : State) : State :=
  if s.rxActive then s.raiseFatal .rxReentry
  else if s.txActive then s.ignored
  else armReception wh s

/-- The rule of RX_BYTE (41_rx.md R142): discarded with no reception armed or with the slot full. -/
def rxByte (b : Byte) (s : State) : Result :=
  if s.rxActive then
    if s.rxCount = s.par.rxSlotBytes then .next s.ignored
    else
      match memWrite s s.activeSlot s.rxCount b with
      | .ok t => .next { t with rxCount := t.rxCount + 1 }
      | .error f => .fault f
  else .next s.ignored

/-- The header guard (41_rx.md R144). The first branch is unreachable by 10_state.md R56 item 5. -/
def hdrGuard (s : State) : Result :=
  if s.rxActive then
    if s.rxCount = 0 then .next (rxTimedOut s)
    else
      match frameSize s s.activeSlot with
      | .ok fs => .next (s.armTimer .rxDeadline (s.now + s.par.rxUsPerByte * fs + s.par.rxMarginUs))
      | .error f => .fault f
  else .next s

/-- The full-frame timeout (41_rx.md R145). With no reception it does nothing, which is unreachable by
10_state.md R56 item 5. -/
def rxDeadline (s : State) : State := if s.rxActive then rxTimedOut s else s

/-- A UART-level receive error: the counter, the signal, and the frame is dropped (41_rx.md R147). -/
def rxError (s : State) (c : NonFatalCode) : State := s.countUartError.signalNonFatal c

/-- The hand-off of a validated frame: one count, one dispatch of `FrameSize(s)` bytes, and one more count when the
application rejects it (41_rx.md R147, R148). -/
def handOff (s : State) (ix : SlotIx) (fs : Nat) : State :=
  let s := s.countReceived.emit (.appDispatch ix fs)
  match acceptAnswer s with
  | .accepted => s
  | .rejected => s.countDropped

/-- RX_DONE up to its checks: the swap, the cleared reception, `TickSched` and `AnnounceThrottle`
(41_rx.md R147). -/
def completeReception (s : State) : State :=
  announceThrottle
    (tickSched { s with activeSlot := s.activeSlot.other, rxCount := 0, rxActive := false })

/-- The checks of RX_DONE, in the order transport error, short frame, checksum, on the slot `ix` that received `n`
bytes (41_rx.md R147). -/
def finishReception (err : Bool) (ix : SlotIx) (n : Nat) (s : State) : Result :=
  if err then .next (rxError s .rxUart)
  else
    match validate s ix n with
    | .error f => .fault f
    | .ok .tooShort => .next (rxError s .rxShort)
    | .ok .crcMismatch => .next (rxError s .rxCrc)
    | .ok .ok =>
      match frameSize s ix with
      | .ok fs => .next (handOff s ix fs)
      | .error f => .fault f

/-- The rule of RX_DONE (41_rx.md R147). -/
def rxDone (err : Bool) (s : State) : Result :=
  if s.rxActive then finishReception err s.activeSlot s.rxCount (completeReception s)
  else .next s.ignored

/-- LINE_FALL (41_rx.md R140) behind the prologue. -/
def execLineFall (wh : Bool) (s : State) : Result :=
  runEvent false false (fun s => .next (lineFall wh s)) s

/-- RX_BYTE (41_rx.md R142) behind the prologue. -/
def execRxByte (data : Byte) (s : State) : Result := runEvent false false (rxByte data) s

/-- RX_DONE (41_rx.md R147) behind the prologue. -/
def execRxDone (err : Bool) (s : State) : Result := runEvent false false (rxDone err) s

end Sys2Proof.Machine
end

