-- ==== Sys2Proof/Machine/Tx.lean ====
section
/-! DEFINITION. The transmitter arbiter: the arbitration pulse, PACKET_READY and TX_DONE (42_tx.md R183 to
R185). -/

namespace Sys2Proof.Machine

/-- The rest of `ArbPulse` once a frame is held: the low pulse, the start attempt, and what follows its answer
(42_tx.md R183). After a FAIL, `TickSched` runs before `TX_PENDING` is set again. -/
def arbStart (f : TxFrame) (s : State) : State :=
  let s := (s.emit .lowPulse).emit (.uartTxStart f.handle f.len)
  match startAnswer s with
  | .ok => tickSched s
  | .fail =>
    let s := s.countLoError.signalNonFatal .txRace
    { tickSched { s with txActive := false } with txPending := true }

/-- `ArbPulse()` (42_tx.md R183). The first branch is the abort that 10_state.md R57 shows unreachable. -/
def arbPulse (s : State) : State :=
  if s.rxActive || s.txActive then s
  else
    let s := { s with txActive := true, txQueued := false, txPending := false }
    match s.txFrame with
    | some f => arbStart f s
    | none =>
      let s := s.emit .appPull
      match pullAnswer s with
      | none => tickSched { s with txActive := false }
      | some f => arbStart f { s with txFrame := some f }

/-- The rule of PACKET_READY (42_tx.md R184). The idle test reads the state at entry (90_conflicts.md C1). -/
def packetReady (s : State) : State :=
  let idle := !s.rxActive && !s.txActive && !s.txQueued
  let s := { s with txPending := true, txQueued := true }
  if idle then tickSched s else s

/-- The rule of TX_DONE (42_tx.md R185). Its error code is not read (30_encoding.md R99). -/
def txDone (s : State) : Result :=
  if s.txActive then
    match s.txFrame with
    | none => .fault .noTxFrame
    | some f =>
      let s := s.emit (.appFrameSent f.handle)
      .next (announceThrottle (tickSched { s with txFrame := none, txActive := false }))
  else .next s.ignored

/-- PACKET_READY (42_tx.md R184) behind the prologue. -/
def execPacketReady (s : State) : Result := runEvent false false (fun s => .next (packetReady s)) s

/-- TX_DONE (42_tx.md R185) behind the prologue. -/
def execTxDone (_code : BitVec 4) (s : State) : Result := runEvent false false txDone s

end Sys2Proof.Machine
end

