-- ==== Sys2Proof/Machine/Control.lean ====
section
/-! DEFINITION. The control events: INIT, TIMER_FIRE, REG_READ and DIAG_SNAPSHOT (44_control.md R241 to
R244). -/

namespace Sys2Proof.Machine

/-- The rule of INIT (44_control.md R241): a second one is ignored. -/
def initRule (s : State) : State :=
  if s.initialized then s.ignored
  else tickSched ({ s with initialized := true }.emit .uartInit)

/-- The callback of a timer that has fired (44_control.md R242; 10_state.md R44). -/
def timerCallback : TimerKind → State → Result
  | .none, s => .next s
  | .heartbeat, s => .next (heartbeat s)
  | .pulse, s => .next (arbPulse s)
  | .hdrGuard, s => hdrGuard s
  | .rxDeadline, s => .next (rxDeadline s)

/-- The rule of TIMER_FIRE (44_control.md R242): ignored when nothing is armed or due; else the one-shot disarms
itself and runs its callback. -/
def timerFire (s : State) : Result :=
  if s.tmrKind = .none then .next s.ignored
  else if s.now < s.tmrDeadline then .next s.ignored
  else timerCallback s.tmrKind { s with tmrKind := .none }

/-- The rule of REG_READ (44_control.md R243). -/
def regRead (a : BitVec 8) (s : State) : State := s.emit (.readData (regValue s a))

/-- The rule of DIAG_SNAPSHOT (44_control.md R244): the seven values of one state, in address order. -/
def diagSnapshot (s : State) : State :=
  snapshotAddrs.foldl (fun t a => t.emit (.readData (regValue t a))) s

/-- INIT (44_control.md R241) behind the prologue; it passes the INITIALIZED filter. -/
def execInit (s : State) : Result := runEvent false true (fun s => .next (initRule s)) s

/-- TIMER_FIRE (44_control.md R242) behind the prologue. -/
def execTimerFire (s : State) : Result := runEvent false false timerFire s

/-- REG_READ (44_control.md R243) behind the prologue; it passes both filters. A misaligned address has no
encoding (30_encoding.md R96), and an event with one is refused as its word is (log 23). -/
def execRegRead (addr : BitVec 8) (s : State) : Result :=
  if (Instr.regRead addr).wf then runEvent true true (fun s => .next (regRead addr s)) s
  else .next (s.markRefused .misaligned)

/-- DIAG_SNAPSHOT (44_control.md R244) behind the prologue; it passes both filters. -/
def execDiagSnapshot (s : State) : Result := runEvent true true (fun s => .next (diagSnapshot s)) s

end Sys2Proof.Machine
end

