-- ==== Sys2Proof/Machine/Dispatch.lean ====
section
/-! DEFINITION. Which meaning each event has: the case of 44_control.md R240. -/

namespace Sys2Proof.Machine

def exec (i : Instr) (s : State) : Host.Outcome State Fault Refusal :=
  match i with
  | .init => Sys2Proof.Machine.execInit s
  | .lineFall wh => Sys2Proof.Machine.execLineFall wh s
  | .rxByte data => Sys2Proof.Machine.execRxByte data s
  | .rxDone err => Sys2Proof.Machine.execRxDone err s
  | .timerFire => Sys2Proof.Machine.execTimerFire s
  | .packetReady => Sys2Proof.Machine.execPacketReady s
  | .txDone code => Sys2Proof.Machine.execTxDone code s
  | .regRead addr => Sys2Proof.Machine.execRegRead addr s
  | .diagSnapshot => Sys2Proof.Machine.execDiagSnapshot s

end Sys2Proof.Machine
end

