-- ==== Sys2Proof/Machine/Step.lean ====
section
/-! DEFINITION. One step of the model (44_control.md R240), and how an event word is placed for the next step. -/

namespace Sys2Proof.Machine

/-- One step (44_control.md R240): the oldest pending event is delivered and decoded; a refused word sets the mark
(30_encoding.md R98), any other runs its event rule. With nothing pending the machine waits (log 2). A state
whose parameters break 00_scope.md R9 is refused (log 6). -/
def step (s : State) : Host.Outcome State Fault Refusal :=
  if s.par.valid then
    match s.pending with
    | [] => .next s.waitIdle
    | inp :: rest =>
      match decode inp.word with
      | .error r => .next ((s.deliver inp rest).markRefused r)
      | .ok i => exec i (s.deliver inp rest)
  else .refused .invalidParameters

/-- The state with the event word `w` delivered next, at the latched time and with the answers and draws that the
state holds. Event words are not stored in the machine; they come from the environment (30_encoding.md R90),
and this stands for that delivery (log 3). -/
def State.withFetchWord (s : State) (nbits w : Nat) : State :=
  { s with
    pending := { s.input with word := BitVec.ofNat 16 (w % 2 ^ nbits), now := s.now } :: s.pending }

end Sys2Proof.Machine
end

