-- ==== Sys2Proof/Safety.lean ====
section
/-! DEFINITION. Runs, launch premises, clean and settled runs, and the invariant between steps, in the terms
the statements use (10_state.md R56; 70_reset_and_hazards.md R307, R308). -/

namespace Sys2Proof.Safety

open Sys2Proof.Machine

/-- `k` steps, stopping at the first stop. -/
def runSteps : Nat → State → Result
  | 0, s => .next s
  | k + 1, s =>
    match step s with
    | .next t => runSteps k t
    | .fault f => .fault f
    | .refused r => .refused r

/-- The observation of a run of `k` steps: its output lists, in step order (70_reset_and_hazards.md R307). -/
def observation : Nat → State → List (List Action)
  | 0, _ => []
  | k + 1, s =>
    match step s with
    | .next t => t.out :: observation k t
    | .fault _ => []
    | .refused _ => []

/-- A clean end state: the refusal mark is clear and `HALTED = 0` (70_reset_and_hazards.md R307). -/
def clean (s : State) : Bool := !s.refusalMark && !s.halted

/-- A settled end state: clean, and nothing is in flight (70_reset_and_hazards.md R307). -/
def settled (s : State) : Bool := clean s && !s.rxActive && !s.txActive && !s.txPending

/-- The launch premise `FromReset` with the parameters `p`, and with the events `es` to come
(70_reset_and_hazards.md R290, R308). -/
def fromReset (p : Params) (es : List Input) : State := { State.reset with par := p, pending := es }

/-- The launch premise `Initialized`: `FromReset` followed by one INIT step (70_reset_and_hazards.md R308). -/
def LaunchInitialized (s : State) : Prop :=
  ∃ (p : Params) (inp : Input) (es : List Input),
    p.valid = true ∧ inp.word = 0x0001#16 ∧ step (fromReset p (inp :: es)) = .next s

/-- The launch premise `IdleBus` (70_reset_and_hazards.md R308). -/
def idleBus (s : State) : Bool :=
  s.initialized && !s.halted && !s.rxActive && !s.txActive && !s.txQueued && !s.txPending &&
    s.txFrame == none && s.rxCount == 0 && s.tmrKind == .heartbeat

/-- Whether the last step was admitted: its word and its timestamp were not REFUSED (30_encoding.md R98; 44_control.md
R240, R245). A step with no event pending processes none and is admitted (log 2). -/
def admitted (s : State) : Bool :=
  match s.outcome with
  | .refused _ => false
  | .idle | .ignored | .fatal _ | .acted => true

/-- The end states of runs from reset, with any admitted parameters and any events, refused ones among them
(70_reset_and_hazards.md R307). -/
inductive RunEnd : State → Prop where
  | reset (p : Params) (es : List Input) (h : p.valid = true) : RunEnd (fromReset p es)
  | step {s t : State} (h : RunEnd s) (hs : Machine.step s = .next t) : RunEnd t

/-- The states reached from reset by admitted events, with any admitted parameters (10_state.md R56;
70_reset_and_hazards.md R308). -/
inductive Reachable : State → Prop where
  | reset (p : Params) (es : List Input) (h : p.valid = true) : Reachable (fromReset p es)
  | step {s t : State} (h : Reachable s) (hs : Machine.step s = .next t) (ha : admitted t = true) : Reachable t

/-- The launch premise `Reached(fields)`: a state reached by admitted events in which the listed fields have the values that
`fields` asks for (70_reset_and_hazards.md R308). -/
def LaunchReached (fields : State → Prop) (s : State) : Prop := Reachable s ∧ fields s

/-- The event reaches its rule: initialize has run, no fatal fault, and the timestamp does not go back
(44_control.md R240). -/
abbrev live (s : State) : Prop := s.initialized = true ∧ s.halted = false ∧ s.now ≤ s.input.now

/-- The state an event rule starts from once the prologue has passed it (44_control.md R240). -/
def entry (s : State) : State := s.begin.latchNow

/-- Both slots in canonical form and within their bounds (20_memory.md R70). -/
abbrev slotsOk (s : State) : Prop :=
  (Memory.wf s.rxSlot0 ∧ Memory.within s.rxSlot0 s.par.rxSlotBytes) ∧
    (Memory.wf s.rxSlot1 ∧ Memory.within s.rxSlot1 s.par.rxSlotBytes)

/-- Each counter fits `CNT_W` bits, and `ANN_CNT` lies below its modulus (10_state.md R41, R42). -/
abbrev countersOk (s : State) : Prop :=
  s.packetsReceived.toNat < 2 ^ s.par.cntW ∧ s.packetsDropped.toNat < 2 ^ s.par.cntW ∧
    s.busLoError.toNat < 2 ^ s.par.cntW ∧ s.busTimeoutError.toNat < 2 ^ s.par.cntW ∧
    s.busUartError.toNat < 2 ^ s.par.cntW ∧ s.annCnt < s.par.annCntMod

/-- Before INIT nothing is active, requested, held or armed (70_reset_and_hazards.md R290, R291). -/
abbrev quietBeforeInit (s : State) : Prop :=
  s.rxActive = false ∧ s.txActive = false ∧ s.txQueued = false ∧ s.txPending = false ∧
    s.txFrame = none ∧ s.rxCount = 0 ∧ s.tmrKind = .none ∧ s.halted = false

/-- The nine items of 10_state.md R56. -/
abbrev betweenSteps (s : State) : Prop :=
  ¬(s.rxActive = true ∧ s.txActive = true) ∧
  (s.txQueued = true → s.txPending = true) ∧
  (s.txActive = true → s.txFrame ≠ none) ∧
  (s.txFrame ≠ none → s.txActive = false → s.txPending = true) ∧
  (s.rxActive = true ↔ s.tmrKind = .hdrGuard ∨ s.tmrKind = .rxDeadline) ∧
  (s.rxActive = false → s.tmrKind = .heartbeat ∨ s.tmrKind = .pulse) ∧
  (s.rxActive = false → s.txActive = false → (s.txQueued = true ↔ s.tmrKind = .pulse)) ∧
  (s.tmrKind = .pulse → s.rxActive = false ∧ s.txActive = false ∧ s.txPending = true) ∧
  (s.rxCount ≤ s.par.rxSlotBytes ∧ (s.rxActive = false → s.rxCount = 0))

/-- What holds of every state between steps, before INIT and after it, halted or not. -/
abbrev Inv (s : State) : Prop :=
  s.par.valid = true ∧ slotsOk s ∧ countersOk s ∧
  (s.initialized = false → quietBeforeInit s) ∧
  (s.initialized = true → betweenSteps s)

/-- Whether an output action is a fault, fatal or not (60_exceptions.md R260). -/
def isFault : Action → Bool
  | .faultNonFatal _ => true
  | .faultFatal _ => true
  | _ => false

/-- Whether an output action hands a frame to the application (41_rx.md R147). -/
def isDispatch : Action → Bool
  | .appDispatch _ _ => true
  | _ => false

/-- Whether a step with this outcome ran no event that acted: it was IGNORED or REFUSED, or no event was pending
(44_control.md R245; log 2). -/
def actsNot : StepOutcome → Bool
  | .idle | .refused _ | .ignored => true
  | .fatal _ | .acted => false

/-- The event that the next step delivers is a LINE_FALL (41_rx.md R140). -/
def lineFallNext (s : State) : Prop :=
  ∃ inp rest wh, s.pending = inp :: rest ∧ decode inp.word = .ok (.lineFall wh)

/-- The next step runs `CheckAnnounce`: it delivers a due heartbeat, or an acting completion that finds the throttle's count
at 0 (43_announce.md R220 callers, R221, R222). -/
def announceCheckNext (s : State) : Prop :=
  s.initialized = true ∧ s.halted = false ∧
    ∃ inp rest i, s.pending = inp :: rest ∧ decode inp.word = .ok i ∧ s.now ≤ inp.now ∧
      ((i = .timerFire ∧ s.tmrKind = .heartbeat ∧ s.tmrDeadline ≤ inp.now) ∨
        ((∃ err, i = .rxDone err) ∧ s.rxActive = true ∧ s.annCnt = 0) ∨
        ((∃ code, i = .txDone code) ∧ s.txActive = true ∧ s.annCnt = 0))

/-- The bytes that the RX_BYTE events among `es` carry, in order (41_rx.md R143). -/
def receivedBytes (es : List Input) : List Byte :=
  es.filterMap fun e =>
    match decode e.word with
    | .ok (.rxByte b) => some b
    | _ => none

/-- The word decodes to an event that is no LINE_FALL and no RX_DONE: inside one reception, RX_BYTE and the events that are
not the receiver's (41_rx.md R143). -/
def withinReception (e : Input) : Bool :=
  match decode e.word with
  | .ok (.lineFall _) => false
  | .ok (.rxDone _) => false
  | .ok _ => true
  | .error _ => false

end Sys2Proof.Safety
end

