-- ==== Sys2Proof/Certificates/Slice0/Obligations.lean ====
section
/-! DEFINITION. The statements for the provers. Each cites the rule of spec/ it formalises; what rests on a choice
of the model names the log entry. -/

open Sys2Proof Sys2Proof.Machine Sys2Proof.Safety

/-! ## Encoding (30_encoding.md) -/

/-- Every well-formed event decodes from its own encoding, with every operand value (30_encoding.md R93, R100). -/
def Obligations.DecodeEncodeRoundTrip : Prop :=
  ∀ i : Instr, i.wf = true → decode (encode i) = .ok i

/-- Every accepted word is the encoding of the one well-formed event it decodes to: no word outside the pattern
column of 30_encoding.md R93 is accepted, and no bit of one is dropped. -/
def Obligations.EncodeDecodeRoundTrip : Prop :=
  ∀ (w : EventWord) (i : Instr), decode w = .ok i → i.wf = true ∧ encode i = w

/-- An accepted word matches the row of its event and no other row, and a refused word matches none
(30_encoding.md R100, R101). -/
def Obligations.AcceptedWordMatchesOneTableRow : Prop :=
  ∀ w : EventWord,
    (∀ i, decode w = .ok i → opcodeTable.filter (fun r => r.admits w) = [i.row]) ∧
    (∀ r, decode w = .error r → opcodeTable.filter (fun r => r.admits w) = [])

/-- The reason a word is refused for: a reserved code exactly for CODE 0 and above 9, a misaligned address only for a
REG_READ word with ARG zero, otherwise a must-be-zero field (30_encoding.md R97, R98). That a REG_READ word with
both defects is refused for its ARG is the model's choice (log 5). -/
def Obligations.RefusalReasonOfWord : Prop :=
  ∀ (w : EventWord) (r : RefuseReason), decode w = .error r →
    (r = .reservedCode ↔ (eventCode w).toNat = 0 ∨ 9 < (eventCode w).toNat) ∧
    (r = .misaligned ↔ eventCode w = 8#4 ∧ eventArg w = 0#4 ∧ (eventData w).extractLsb' 0 2 ≠ 0#2) ∧
    r ≠ .timeRegression

/-- A few words written out from the pattern column of 30_encoding.md R93, one per family. -/
def Obligations.SampleWordsDecode : Prop :=
  decode 0b0000000000000001#16 = .ok .init ∧
  decode 0b0000000000010010#16 = .ok (.lineFall true) ∧
  decode 0b1111100100000011#16 = .ok (.rxByte 0xF9#8) ∧
  decode 0b0000000000010100#16 = .ok (.rxDone true) ∧
  decode 0b0000000000000101#16 = .ok .timerFire ∧
  decode 0b0000000000000110#16 = .ok .packetReady ∧
  decode 0b0000000011110111#16 = .ok (.txDone 15#4) ∧
  decode 0b0001100000001000#16 = .ok (.regRead 0x18#8) ∧
  decode 0b0000000000001001#16 = .ok .diagSnapshot

/-! ## The step (44_control.md R240) -/

/-- With admitted parameters, a step delivers the oldest pending event, and runs the event its word decodes to
(44_control.md R240). -/
def Obligations.StepRunsDecodedEvent : Prop :=
  ∀ (s : State) (inp : Input) (rest : List Input) (i : Instr),
    s.par.valid = true → s.pending = inp :: rest → decode inp.word = .ok i →
    step s = exec i { s with input := inp, pending := rest }

/-- With no event pending the machine waits: no field of the machine changes and nothing is emitted. The spec has no step
without an event, so this is the model's own choice (log 2). -/
def Obligations.NoPendingEventWaits : Prop :=
  ∀ s : State, s.par.valid = true → s.pending = [] → step s = .next { s with out := [], outcome := .idle }

/-- A refused word changes nothing but the run's mark, which no step clears, and it emits nothing (30_encoding.md R98;
44_control.md R245). That the run goes on after it, with the event consumed, is the model's reading (log 4). -/
def Obligations.RefusedWordOnlySetsStickyMark : Prop :=
  (∀ (s : State) (inp : Input) (rest : List Input) (r : RefuseReason),
    s.par.valid = true → s.pending = inp :: rest → decode inp.word = .error r →
    step s = .next { s with
      input := inp, pending := rest, out := [], outcome := .refused r, refusalMark := true }) ∧
  (∀ s t : State, step s = .next t → s.refusalMark = true → t.refusalMark = true)

/-- An event whose timestamp goes back is refused in every state, halted or not, and latches nothing (44_control.md
R240). -/
def Obligations.TimeRegressionIsRefused : Prop :=
  ∀ (i : Instr) (s : State), i.wf = true → s.input.now < s.now →
    exec i s = .next { s with out := [], outcome := .refused .timeRegression, refusalMark := true }

/-- A parameter set that breaks one of the six constraints of 00_scope.md R9 is rejected, and no other. That the rejection is
the answer of a step is the model's choice, because R9 does not say when a set is rejected (log 6). -/
def Obligations.BadParametersAreRejected : Prop :=
  ∀ s : State,
    step s = .refused .invalidParameters ↔
      ¬(4 ≤ s.par.frameSizeBias ∧
        s.par.sizeOffset + 1 ≤ s.par.rxSlotBytes ∧
        s.par.arbJitterUs + s.par.wrOverheadUs ≤ s.par.arbNominalUs ∧
        (1 ≤ s.par.tickUs ∧ 1 ≤ s.par.hdrGuardUs ∧ 1 ≤ s.par.annIntervalUs) ∧
        1 ≤ s.par.annCntMod ∧
        (1 ≤ s.par.cntW ∧ s.par.cntW ≤ 32))

/-- No step changes the parameters, and the latched time never goes back (70_reset_and_hazards.md R292; 44_control.md
R240, R245). -/
def Obligations.StepKeepsParametersAndTime : Prop :=
  ∀ s t : State, step s = .next t → t.par = s.par ∧ s.now ≤ t.now

/-- The halted state (10_state.md R46; 60_exceptions.md R264, R265; 70_reset_and_hazards.md R293): `HALTED` is set exactly by a
fatal fault, no step clears it, while it is 1 every event but REG_READ and DIAG_SNAPSHOT is ignored, and no event changes a
field of the machine, not even `NOW`. -/
def Obligations.HaltedStateIsFrozen : Prop :=
  (∀ s t : State, step s = .next t → s.halted = false →
    (t.halted = true ↔ t.outcome = .fatal .rxReentry)) ∧
  (∀ s t : State, step s = .next t → s.halted = true → t.halted = true) ∧
  (∀ (s : State) (i : Instr), s.halted = true → s.now ≤ s.input.now →
    i ≠ .diagSnapshot → (∀ a, i ≠ .regRead a) →
    exec i s = .next { s with out := [], outcome := .ignored }) ∧
  (∀ (s t : State) (i : Instr), exec i s = .next t → s.halted = true →
    t = { s with out := t.out, outcome := t.outcome, refusalMark := t.refusalMark })

/-- `INITIALIZED` (10_state.md R45): while it is 0 every event but INIT, REG_READ and DIAG_SNAPSHOT is ignored, with `NOW`
latched; INIT sets it, and no step clears it. -/
def Obligations.EventsBeforeInitAreIgnored : Prop :=
  (∀ (s : State) (i : Instr), s.initialized = false → s.halted = false → s.now ≤ s.input.now →
    i ≠ .init → i ≠ .diagSnapshot → (∀ a, i ≠ .regRead a) →
    exec i s = .next { s with now := s.input.now, out := [], outcome := .ignored }) ∧
  (∀ s t : State, s.halted = false → s.now ≤ s.input.now → exec .init s = .next t →
    t.initialized = true) ∧
  (∀ s t : State, step s = .next t → s.initialized = true → t.initialized = true)

/-- The IGNORED cases after the prologue (44_control.md R246): the table lists them all, an event in one of them writes
no field but `NOW`, and it emits nothing. -/
def Obligations.IgnoredCasesAreTheTable : Prop :=
  ∀ (s t : State) (i : Instr), live s → i.wf = true → exec i s = .next t →
    (t.outcome = .ignored ↔
      i = .init ∨
      ((∃ wh, i = .lineFall wh) ∧ s.rxActive = false ∧ s.txActive = true) ∨
      ((∃ b, i = .rxByte b) ∧ (s.rxActive = false ∨ s.rxCount = s.par.rxSlotBytes)) ∨
      ((∃ e, i = .rxDone e) ∧ s.rxActive = false) ∨
      (i = .timerFire ∧ (s.tmrKind = .none ∨ s.input.now < s.tmrDeadline)) ∨
      ((∃ c, i = .txDone c) ∧ s.txActive = false)) ∧
    (t.outcome = .ignored → t = { s with now := s.input.now, out := [], outcome := .ignored })

/-! ## INIT (44_control.md R241) -/

/-- INIT (44_control.md R241), when it has not run yet: it sets `INITIALIZED`, initializes the transport and calls the tick
scheduler. So right after reset, and in any state with no reception and nothing to schedule, it arms the first
heartbeat; every other field is as before. -/
def Obligations.InitArmsFirstHeartbeat : Prop :=
  (∀ s : State, s.initialized = false → s.halted = false → s.now ≤ s.input.now →
    exec .init s = .next (tickSched { s with
      now := s.input.now
      initialized := true
      out := [.uartInit]
      outcome := .acted })) ∧
  (∀ s : State, s.initialized = false → s.halted = false → s.now ≤ s.input.now →
    s.rxActive = false → (s.txPending = false ∨ s.txActive = true) →
    exec .init s = .next { s with
      now := s.input.now
      initialized := true
      txQueued := false
      tmrKind := .heartbeat
      tmrDeadline := s.input.now + s.par.tickUs
      out := [.uartInit]
      outcome := .acted })

/-! ## The receiver (41_rx.md) -/

/-- LINE_FALL with the line back high starts a reception: the active slot reads 0 everywhere, the count is 0, the
transport is started, the header guard is armed, and every other field, the other slot among them, is as before
(41_rx.md R140). -/
def Obligations.LineFallStartsReception : Prop :=
  ∀ s : State, live s → s.rxActive = false → s.txActive = false →
    ∃ t, exec (.lineFall true) s = .next t ∧
      (∀ i < s.par.rxSlotBytes, t.slotByte s.activeSlot i = 0#8) ∧
      (∀ i, t.slotByte s.activeSlot.other i = s.slotByte s.activeSlot.other i) ∧
      (∀ i, s.par.rxSlotBytes ≤ i → t.slotByte s.activeSlot i = s.slotByte s.activeSlot i) ∧
      t = { s with
        now := s.input.now
        rxActive := true
        rxCount := 0
        rxSlot0 := t.rxSlot0
        rxSlot1 := t.rxSlot1
        tmrKind := .hdrGuard
        tmrDeadline := s.input.now + s.par.hdrGuardUs
        out := [.uartRxStart s.activeSlot s.par.rxSlotBytes]
        outcome := .acted }

/-- LINE_FALL with a failed line-high wait times out at once, with no transport start: the slot is zeroed, the timeout is
counted and signalled, the reception is aborted, and the tick scheduler is re-armed (41_rx.md R140, R146; 42_tx.md
R180). -/
def Obligations.LineFallFailedWaitTimesOut : Prop :=
  ∀ s : State, live s → s.rxActive = false → s.txActive = false →
    ∃ t, exec (.lineFall false) s = .next t ∧
      (∀ i < s.par.rxSlotBytes, t.slotByte s.activeSlot i = 0#8) ∧
      (∀ i, t.slotByte s.activeSlot.other i = s.slotByte s.activeSlot.other i) ∧
      t = { s with
        now := s.input.now
        rxActive := false
        rxCount := 0
        rxSlot0 := t.rxSlot0
        rxSlot1 := t.rxSlot1
        busTimeoutError := bumpCounter s.par.cntW s.busTimeoutError
        txQueued := s.txPending
        tmrKind := if s.txPending then .pulse else .heartbeat
        tmrDeadline := if s.txPending
          then s.input.now + drawAround s s.par.arbNominalUs s.par.arbJitterUs - s.par.wrOverheadUs
          else s.input.now + s.par.tickUs
        out := [.faultNonFatal .rxTimeout, .uartRxAbort]
        outcome := .acted }

/-- The two other forms of LINE_FALL: fatal while a reception is in progress, with nothing changed but `NOW` and `HALTED`,
and masked during the own transmission (41_rx.md R140; 60_exceptions.md R264, R268). -/
def Obligations.LineFallReentryHaltsAndMaskIgnores : Prop :=
  (∀ (s : State) (wh : Bool), live s → s.rxActive = true →
    exec (.lineFall wh) s = .next { s with
      now := s.input.now
      halted := true
      out := [.faultFatal .rxReentry]
      outcome := .fatal .rxReentry }) ∧
  (∀ (s : State) (wh : Bool), live s → s.rxActive = false → s.txActive = true →
    exec (.lineFall wh) s = .next { s with now := s.input.now, out := [], outcome := .ignored })

/-- RX_BYTE stores one byte at offset `RX_COUNT` of the active slot and counts it; every other byte of both slots and every
other field is as before (41_rx.md R142). Without a reception, or with the slot full, it is ignored. -/
def Obligations.RxByteStoresAtCount : Prop :=
  (∀ (s : State) (b : Byte), live s → slotsOk s → s.rxActive = true → s.rxCount < s.par.rxSlotBytes →
    ∃ t, exec (.rxByte b) s = .next t ∧
      t.slotByte s.activeSlot s.rxCount = b ∧
      (∀ ix i, ¬(ix = s.activeSlot ∧ i = s.rxCount) → t.slotByte ix i = s.slotByte ix i) ∧
      t = { s with
        now := s.input.now
        rxCount := s.rxCount + 1
        rxSlot0 := t.rxSlot0
        rxSlot1 := t.rxSlot1
        out := []
        outcome := .acted }) ∧
  (∀ (s : State) (b : Byte), live s → (s.rxActive = false ∨ s.rxCount = s.par.rxSlotBytes) →
    exec (.rxByte b) s = .next { s with now := s.input.now, out := [], outcome := .ignored })

/-- Frame assembly (41_rx.md R143). First, whatever other events that are not the receiver's come between: if a reception runs
from a LINE_FALL with WH = 1, takes in k bytes with `k <= RX_SLOT_BYTES`, and is still in progress, then the active slot holds
those bytes at offsets 0 to k-1 and zero at every other offset, and `RX_COUNT = k`. Second, LINE_FALL followed by the RX_BYTE
events alone always gets there. -/
def Obligations.FrameAssembly : Prop :=
  (∀ (s t : State) (fall : Input) (es rest : List Input),
    s.par.valid = true → slotsOk s →
    s.initialized = true → s.halted = false → s.rxActive = false → s.txActive = false →
    s.pending = fall :: (es ++ rest) →
    fall.word = encode (.lineFall true) → (∀ e ∈ es, withinReception e = true) →
    (s.now :: fall.now :: es.map fun e => e.now).IsChain (· ≤ ·) →
    (receivedBytes es).length ≤ s.par.rxSlotBytes →
    runSteps (1 + es.length) s = .next t → t.rxActive = true →
    t.activeSlot = s.activeSlot ∧ t.rxCount = (receivedBytes es).length ∧
      ∀ i < s.par.rxSlotBytes, t.slotByte s.activeSlot i = ((receivedBytes es)[i]?).getD 0#8) ∧
  (∀ (s : State) (fall : Input) (feed : List (Byte × Input)) (rest : List Input),
    s.par.valid = true → slotsOk s →
    s.initialized = true → s.halted = false → s.rxActive = false → s.txActive = false →
    s.pending = fall :: (feed.map Prod.snd ++ rest) →
    fall.word = encode (.lineFall true) → (∀ x ∈ feed, x.2.word = encode (.rxByte x.1)) →
    (s.now :: fall.now :: feed.map fun x => x.2.now).IsChain (· ≤ ·) →
    feed.length ≤ s.par.rxSlotBytes →
    ∃ t, runSteps (1 + feed.length) s = .next t ∧
      t.rxActive = true ∧ t.activeSlot = s.activeSlot ∧ t.rxCount = feed.length ∧ t.pending = rest ∧
      (∀ i < s.par.rxSlotBytes,
        t.slotByte s.activeSlot i = ((feed.map Prod.fst)[i]?).getD 0#8) ∧
      (∀ i, t.slotByte s.activeSlot.other i = s.slotByte s.activeSlot.other i))

/-- The header guard: with no byte arrived the reception times out; else the full-frame deadline is armed from the declared
size (41_rx.md R144, R146; 40_frame_codec.md R120). -/
def Obligations.HeaderGuardTimesOutOrArmsDeadline : Prop :=
  ∀ s : State, live s → s.par.valid = true → s.tmrKind = .hdrGuard → s.tmrDeadline ≤ s.input.now →
    s.rxActive = true →
    (s.rxCount = 0 →
      exec .timerFire s = .next (tickSched { s with
        now := s.input.now
        tmrKind := .none
        busTimeoutError := bumpCounter s.par.cntW s.busTimeoutError
        rxActive := false
        rxCount := 0
        out := [.faultNonFatal .rxTimeout, .uartRxAbort]
        outcome := .acted })) ∧
    (s.rxCount ≠ 0 →
      exec .timerFire s = .next { s with
        now := s.input.now
        tmrKind := .rxDeadline
        tmrDeadline := s.input.now + s.par.rxUsPerByte *
          ((s.slotByte s.activeSlot s.par.sizeOffset).toNat + s.par.frameSizeBias) + s.par.rxMarginUs
        out := []
        outcome := .acted })

/-- The full-frame timeout ends the reception with the slot bytes and the slot index kept, and releases a transmission that
waited for it (41_rx.md R145, R146). -/
def Obligations.FrameDeadlineReleasesBus : Prop :=
  ∀ s : State, live s → s.tmrKind = .rxDeadline → s.tmrDeadline ≤ s.input.now → s.rxActive = true →
    s.txActive = false →
    exec .timerFire s = .next { s with
      now := s.input.now
      rxActive := false
      rxCount := 0
      busTimeoutError := bumpCounter s.par.cntW s.busTimeoutError
      txQueued := s.txPending
      tmrKind := if s.txPending then .pulse else .heartbeat
      tmrDeadline := if s.txPending
        then s.input.now + drawAround s s.par.arbNominalUs s.par.arbJitterUs - s.par.wrOverheadUs
        else s.input.now + s.par.tickUs
      out := [.faultNonFatal .rxTimeout, .uartRxAbort]
      outcome := .acted }

/-- RX_DONE with a reception in progress always completes: the slots swap, the reception is cleared, the throttle counts, and
exactly one of the four endings of 41_rx.md R147 follows, in the order transport error, short frame, checksum. The announce
request, if any, comes before it. Both slots, the transmit fields but TX_QUEUED, and the other counters are as before. -/
def Obligations.RxDoneCompletesReception : Prop :=
  ∀ (s : State) (err : Bool), live s → s.par.valid = true → s.rxActive = true →
    s.rxCount ≤ s.par.rxSlotBytes →
    ∃ t fs v, exec (.rxDone err) s = .next t ∧
      frameSize s s.activeSlot = .ok fs ∧ validate s s.activeSlot s.rxCount = .ok v ∧
      t.annCnt = (s.annCnt + 1) % s.par.annCntMod ∧
      t.annDeadline = (if s.annCnt = 0 ∧ (s.annDeadline = 0 ∨ s.annDeadline < s.input.now)
        then s.input.now + s.par.annIntervalUs + drawJitter s s.par.annJitterMaxUs else s.annDeadline) ∧
      t.txQueued = (s.txPending && !s.txActive) ∧
      t.tmrKind = (if s.txPending && !s.txActive then .pulse else .heartbeat) ∧
      t.tmrDeadline = (if s.txPending && !s.txActive
        then s.input.now + drawAround s s.par.arbNominalUs s.par.arbJitterUs - s.par.wrOverheadUs
        else s.input.now + s.par.tickUs) ∧
      t = { s with
        now := s.input.now
        rxActive := false
        rxCount := 0
        activeSlot := s.activeSlot.other
        txQueued := t.txQueued
        tmrKind := t.tmrKind
        tmrDeadline := t.tmrDeadline
        annCnt := t.annCnt
        annDeadline := t.annDeadline
        packetsReceived := t.packetsReceived
        packetsDropped := t.packetsDropped
        busUartError := t.busUartError
        out := t.out
        outcome := .acted } ∧
      (∃ ann, ann = (if s.annCnt = 0 ∧ s.annDeadline ≠ 0 ∧ s.annDeadline < s.input.now
          then [Action.appAnnounceReq] else []) ∧
        if err = true then
          t.out = ann ++ [.faultNonFatal .rxUart] ∧
          t.busUartError = bumpCounter s.par.cntW s.busUartError ∧
          t.packetsReceived = s.packetsReceived ∧ t.packetsDropped = s.packetsDropped
        else if v = .tooShort then
          t.out = ann ++ [.faultNonFatal .rxShort] ∧
          t.busUartError = bumpCounter s.par.cntW s.busUartError ∧
          t.packetsReceived = s.packetsReceived ∧ t.packetsDropped = s.packetsDropped
        else if v = .crcMismatch then
          t.out = ann ++ [.faultNonFatal .rxCrc] ∧
          t.busUartError = bumpCounter s.par.cntW s.busUartError ∧
          t.packetsReceived = s.packetsReceived ∧ t.packetsDropped = s.packetsDropped
        else
          t.out = ann ++ [.appDispatch s.activeSlot fs] ∧
          t.busUartError = s.busUartError ∧
          t.packetsReceived = bumpCounter s.par.cntW s.packetsReceived ∧
          t.packetsDropped =
            if s.input.accept = .rejected then bumpCounter s.par.cntW s.packetsDropped
            else s.packetsDropped)

/-- RX_DONE with no reception in progress is ignored (41_rx.md R147; 70_reset_and_hazards.md R296). -/
def Obligations.LateRxDoneIsIgnored : Prop :=
  ∀ (s : State) (err : Bool), live s → s.rxActive = false →
    exec (.rxDone err) s = .next { s with now := s.input.now, out := [], outcome := .ignored }

/-- `ACTIVE_SLOT` is toggled by an RX_DONE that the prologue lets through with a reception in progress, and by nothing else
(10_state.md R38; 41_rx.md R149). -/
def Obligations.OnlyCompletionsSwapSlots : Prop :=
  ∀ (s t : State) (i : Instr), exec i s = .next t →
    t.activeSlot =
      if live s ∧ (∃ e, i = .rxDone e) ∧ s.rxActive = true then s.activeSlot.other else s.activeSlot

/-- Only LINE_FALL and RX_BYTE write a receive slot, and only the active one (10_state.md R37; 20_memory.md R70, R79). -/
def Obligations.SlotWritesStayInActiveSlot : Prop :=
  ∀ (s t : State) (i : Instr), exec i s = .next t →
    (∀ k, t.slotByte s.activeSlot.other k = s.slotByte s.activeSlot.other k) ∧
    ((∀ wh, i ≠ .lineFall wh) → (∀ b, i ≠ .rxByte b) →
      t.rxSlot0 = s.rxSlot0 ∧ t.rxSlot1 = s.rxSlot1)

/-- The slot that is not active, which is the slot that the last completion handed over, keeps its bytes through any number of
steps, through the next completion, which makes it the active slot, and after it until a LINE_FALL acts on it (20_memory.md
R79; 70_reset_and_hazards.md R295). -/
def Obligations.CompletedSlotIsKept : Prop :=
  ∀ (s u : State) (k : Nat), runSteps k s = .next u →
    (∀ j v w, j < k → runSteps j s = .next v → step v = .next w → v.activeSlot = s.activeSlot.other →
      lineFallNext v → w.outcome ≠ .acted) →
    ∀ i, u.slotByte s.activeSlot.other i = s.slotByte s.activeSlot.other i

/-! ## The frame codec (40_frame_codec.md) -/

/-- "For all frames, `validate` succeeds iff `bytes_received >= frame_size(frame)` and the checksum over `[2, frame_size)`
matches the header checksum; otherwise it reports exactly one of `TooShort` or `CrcMismatch`, never both"
(40_frame_codec.md R125). Here for every slot contents and every received count that fits the slot. -/
def Obligations.ValidateReportsExactlyOneVerdict : Prop :=
  ∀ (s : State) (ix : SlotIx) (n : Nat), s.par.valid = true → n ≤ s.par.rxSlotBytes →
    ∃ fs v, frameSize s ix = .ok fs ∧ validate s ix n = .ok v ∧
      (v = .ok ↔ fs ≤ n ∧
        (crc16 s.par.crc ((List.range (fs - 2)).map fun k => s.slotByte ix (2 + k))).toNat =
          (s.slotByte ix 0).toNat + 256 * (s.slotByte ix 1).toNat) ∧
      (v = .tooShort ↔ n < fs) ∧
      (v = .crcMismatch ↔ fs ≤ n ∧
        (crc16 s.par.crc ((List.range (fs - 2)).map fun k => s.slotByte ix (2 + k))).toNat ≠
          (s.slotByte ix 0).toNat + 256 * (s.slotByte ix 1).toNat)

/-- `FrameSize` is the length field plus the bias, at least 4 and at most 255 plus the bias (40_frame_codec.md R120), and a
frame whose declared size exceeds the slot never validates (40_frame_codec.md R124). -/
def Obligations.OversizeFrameNeverValidates : Prop :=
  ∀ (s : State) (ix : SlotIx) (n : Nat), s.par.valid = true → n ≤ s.par.rxSlotBytes →
    ∃ fs, frameSize s ix = .ok fs ∧
      fs = (s.slotByte ix s.par.sizeOffset).toNat + s.par.frameSizeBias ∧
      4 ≤ fs ∧ fs ≤ 255 + s.par.frameSizeBias ∧
      (s.par.rxSlotBytes < fs → validate s ix n = .ok .tooShort) ∧
      (∃ v, validate s ix n = .ok v) ∧
      (s.par = Params.default → fs ≤ s.par.rxSlotBytes)

/-! ## The transmitter arbiter (42_tx.md) -/

/-- `TickSched` (42_tx.md R180): nothing while receiving; the randomized pulse when a transmission is requested and none is
in progress; else the heartbeat. -/
def Obligations.TickSchedRearms : Prop :=
  ∀ s : State,
    (s.rxActive = true → tickSched s = s) ∧
    (s.rxActive = false → s.txPending = true → s.txActive = false → s.par.valid = true →
      ∃ d, s.par.arbNominalUs - s.par.arbJitterUs ≤ d ∧ d ≤ s.par.arbNominalUs + s.par.arbJitterUs ∧
        s.par.wrOverheadUs ≤ d ∧
        tickSched s = { s with
          txQueued := true
          tmrKind := .pulse
          tmrDeadline := s.now + (d - s.par.wrOverheadUs) }) ∧
    (s.rxActive = false → (s.txPending = false ∨ s.txActive = true) →
      tickSched s = { s with
        txQueued := false
        tmrKind := .heartbeat
        tmrDeadline := s.now + s.par.tickUs })

/-- The arbitration delay lies in its window, every delay in the window is drawn for some input of the step, and with the
default parameters the window is [90, 190] (42_tx.md R181). -/
def Obligations.ArbitrationDelayWindow : Prop :=
  ∀ s : State, s.par.valid = true → s.rxActive = false → s.txPending = true → s.txActive = false →
    (∀ delay,
      (s.par.arbNominalUs - s.par.arbJitterUs - s.par.wrOverheadUs ≤ delay ∧
        delay ≤ s.par.arbNominalUs + s.par.arbJitterUs - s.par.wrOverheadUs) ↔
      ∃ a, (tickSched { s with input := { s.input with around := a } }).tmrDeadline = s.now + delay) ∧
    (s.par = Params.default →
      s.now + 90 ≤ (tickSched s).tmrDeadline ∧ (tickSched s).tmrDeadline ≤ s.now + 190)

/-- PACKET_READY (42_tx.md R184, R188): on an idle bus it arms PULSE in the same step, one arbitration delay ahead; on a busy
bus it only records the request. No other field changes. -/
def Obligations.PacketReadyArmsPulseOrRecords : Prop :=
  (∀ s : State, live s → s.busy = false →
    exec .packetReady s = .next { s with
      now := s.input.now
      txPending := true
      txQueued := true
      tmrKind := .pulse
      tmrDeadline := s.input.now + drawAround s s.par.arbNominalUs s.par.arbJitterUs - s.par.wrOverheadUs
      out := []
      outcome := .acted }) ∧
  (∀ s : State, live s → s.busy = true →
    exec .packetReady s = .next { s with
      now := s.input.now, txPending := true, txQueued := true, out := [], outcome := .acted })

/-- A due PULSE that gets a frame, held or pulled, and whose start answers OK: the bus is claimed, the frame is held, no
`AppPull` is made when a frame was held already, and the heartbeat is armed (42_tx.md R183). -/
def Obligations.PulseStartsTransmission : Prop :=
  ∀ (s : State) (f : TxFrame), live s → s.tmrKind = .pulse → s.tmrDeadline ≤ s.input.now →
    s.rxActive = false → s.txActive = false → s.input.start = .ok →
    (s.txFrame = some f ∨ (s.txFrame = none ∧ s.input.pull = some f)) →
    exec .timerFire s = .next { s with
      now := s.input.now
      txActive := true
      txQueued := false
      txPending := false
      txFrame := some f
      tmrKind := .heartbeat
      tmrDeadline := s.input.now + s.par.tickUs
      out := (if s.txFrame = none then [.appPull] else []) ++ [.lowPulse, .uartTxStart f.handle f.len]
      outcome := .acted }

/-- A due PULSE whose start answers FAIL: the race is counted and signalled, the frame is kept, the request is kept, and the
retry waits for the heartbeat (42_tx.md R183, R186; 90_conflicts.md C7). -/
def Obligations.StartRaceKeepsFrame : Prop :=
  ∀ (s : State) (f : TxFrame), live s → s.tmrKind = .pulse → s.tmrDeadline ≤ s.input.now →
    s.rxActive = false → s.txActive = false → s.input.start = .fail →
    (s.txFrame = some f ∨ (s.txFrame = none ∧ s.input.pull = some f)) →
    exec .timerFire s = .next { s with
      now := s.input.now
      txActive := false
      txQueued := false
      txPending := true
      txFrame := some f
      busLoError := bumpCounter s.par.cntW s.busLoError
      tmrKind := .heartbeat
      tmrDeadline := s.input.now + s.par.tickUs
      out := (if s.txFrame = none then [.appPull] else []) ++
        [.lowPulse, .uartTxStart f.handle f.len, .faultNonFatal .txRace]
      outcome := .acted }

/-- A due PULSE with no held frame and a pull that answers NONE finishes at once: no pulse, no start, the heartbeat armed
(42_tx.md R183). -/
def Obligations.PulseWithoutFrameFinishes : Prop :=
  ∀ s : State, live s → s.tmrKind = .pulse → s.tmrDeadline ≤ s.input.now →
    s.rxActive = false → s.txActive = false → s.txFrame = none → s.input.pull = none →
    exec .timerFire s = .next { s with
      now := s.input.now
      txActive := false
      txQueued := false
      txPending := false
      tmrKind := .heartbeat
      tmrDeadline := s.input.now + s.par.tickUs
      out := [.appPull]
      outcome := .acted }

/-- The three early returns of timer callbacks, which 10_state.md R56 item 5 and R57 show unreachable: a pulse due on a busy
bus, and a header guard or a full-frame deadline due with no reception. The timer is disarmed, nothing else changes, nothing
is emitted, and the outcome is ACTED (41_rx.md R144, R145; 42_tx.md R183; 44_control.md R246). -/
def Obligations.UnreachableCallbacksOnlyDisarm : Prop :=
  ∀ s : State, live s → s.tmrDeadline ≤ s.input.now →
    ((s.tmrKind = .pulse ∧ (s.rxActive = true ∨ s.txActive = true)) ∨
      (s.tmrKind = .hdrGuard ∧ s.rxActive = false) ∨
      (s.tmrKind = .rxDeadline ∧ s.rxActive = false)) →
    exec .timerFire s = .next { s with now := s.input.now, tmrKind := .none, out := [], outcome := .acted }

/-- TX_DONE of a transmission in progress reports the frame sent, releases it, re-arms, and counts the completion, whatever its
error code; with no transmission in progress it is ignored (42_tx.md R185; 30_encoding.md R99). -/
def Obligations.TxDoneReleasesFrame : Prop :=
  (∀ (s : State) (code : BitVec 4) (f : TxFrame), live s → s.txActive = true → s.txFrame = some f →
    ∃ t, exec (.txDone code) s = .next t ∧
      t.txActive = false ∧ t.txFrame = none ∧
      t.annCnt = (s.annCnt + 1) % s.par.annCntMod ∧
      t.out = .appFrameSent f.handle ::
        (if s.annCnt = 0 ∧ s.annDeadline ≠ 0 ∧ s.annDeadline < s.input.now then [.appAnnounceReq] else []) ∧
      (s.rxActive = false →
        t.txQueued = s.txPending ∧ t.tmrKind = (if s.txPending then .pulse else .heartbeat) ∧
        t.tmrDeadline = (if s.txPending
          then s.input.now + drawAround s s.par.arbNominalUs s.par.arbJitterUs - s.par.wrOverheadUs
          else s.input.now + s.par.tickUs)) ∧
      t.annDeadline = (if s.annCnt = 0 ∧ (s.annDeadline = 0 ∨ s.annDeadline < s.input.now)
        then s.input.now + s.par.annIntervalUs + drawJitter s s.par.annJitterMaxUs else s.annDeadline) ∧
      t = { s with
        now := s.input.now
        txActive := false
        txFrame := none
        txQueued := t.txQueued
        tmrKind := t.tmrKind
        tmrDeadline := t.tmrDeadline
        annCnt := t.annCnt
        annDeadline := t.annDeadline
        out := t.out
        outcome := .acted }) ∧
  (∀ (s : State) (code : BitVec 4), live s → s.txActive = false →
    exec (.txDone code) s = .next { s with now := s.input.now, out := [], outcome := .ignored })

/-- Frame accounting (42_tx.md R187): `AppPull` is requested only when no frame is held; a held frame stays held until a step
that reports it sent, and only a held frame is reported sent or started. -/
def Obligations.FrameAccounting : Prop :=
  ∀ s t : State, step s = .next t →
    (Action.appPull ∈ t.out → s.txFrame = none) ∧
    (∀ f, s.txFrame = some f → t.txFrame = some f ∨ (t.txFrame = none ∧ .appFrameSent f.handle ∈ t.out)) ∧
    (∀ h, Action.appFrameSent h ∈ t.out → ∃ len, s.txFrame = some ⟨h, len⟩ ∧ t.txFrame = none) ∧
    (∀ h len, Action.uartTxStart h len ∈ t.out → t.txFrame = some ⟨h, len⟩)

/-- A frame whose start raced is presented again without a new pull: the next due heartbeat arms the pulse, and the next due
pulse starts the same frame (42_tx.md R186). -/
def Obligations.RacedFrameIsRetriedWithoutPull : Prop :=
  ∀ (s : State) (f : TxFrame) (beat fire : Input) (rest : List Input),
    s.par.valid = true → s.initialized = true → s.halted = false →
    s.rxActive = false → s.txActive = false → s.txPending = true → s.txFrame = some f →
    s.tmrKind = .heartbeat → s.pending = beat :: fire :: rest →
    beat.word = encode .timerFire → fire.word = encode .timerFire →
    s.now ≤ beat.now → s.tmrDeadline ≤ beat.now →
    beat.now + s.par.arbNominalUs + s.par.arbJitterUs ≤ fire.now + s.par.wrOverheadUs →
    ∃ t u, step s = .next t ∧ t.tmrKind = .pulse ∧ t.txFrame = some f ∧
      step t = .next u ∧ Action.appPull ∉ u.out ∧ .uartTxStart f.handle f.len ∈ u.out ∧
      u.txFrame = some f ∧ u.txActive = decide (fire.start = .ok)

/-! ## The announce scheduler (43_announce.md) -/

/-- `CheckAnnounce` (43_announce.md R220): the first call only arms, "passed" is strict, and the new deadline is the interval
plus a jitter of at most `ANN_JITTER_MAX_US` after `NOW`. -/
def Obligations.AnnounceCheckArmsOrAsks : Prop :=
  ∀ s : State,
    (s.annDeadline = 0 → ∃ j ≤ s.par.annJitterMaxUs,
      checkAnnounce s = { s with annDeadline := s.now + s.par.annIntervalUs + j }) ∧
    (s.annDeadline ≠ 0 → s.annDeadline < s.now → ∃ j ≤ s.par.annJitterMaxUs,
      checkAnnounce s = { s with
        annDeadline := s.now + s.par.annIntervalUs + j, out := s.out ++ [.appAnnounceReq] }) ∧
    (s.annDeadline ≠ 0 → s.now ≤ s.annDeadline → checkAnnounce s = s)

/-- `AnnounceThrottle` (43_announce.md R221): it counts modulo `ANN_CNT_MOD` and checks exactly when the count before was
0. -/
def Obligations.ThrottleChecksOnceARound : Prop :=
  ∀ s : State, s.par.valid = true →
    (announceThrottle s).annCnt < s.par.annCntMod ∧
    (s.annCnt + 1 < s.par.annCntMod → (announceThrottle s).annCnt = s.annCnt + 1) ∧
    (s.annCnt + 1 = s.par.annCntMod → (announceThrottle s).annCnt = 0) ∧
    (s.annCnt ≠ 0 → announceThrottle s = { s with annCnt := (s.annCnt + 1) % s.par.annCntMod }) ∧
    (s.annCnt = 0 → announceThrottle s = { checkAnnounce s with annCnt := 1 % s.par.annCntMod })

/-- The heartbeat runs the announce check and then the tick scheduler (43_announce.md R222). -/
def Obligations.HeartbeatChecksThenRearms : Prop :=
  ∀ s : State, live s → s.tmrKind = .heartbeat → s.tmrDeadline ≤ s.input.now → s.rxActive = false →
    ∃ t, exec .timerFire s = .next t ∧
      (s.txPending = true ∧ s.txActive = false →
        t.tmrKind = .pulse ∧ t.txQueued = true ∧
        t.tmrDeadline =
          s.input.now + drawAround s s.par.arbNominalUs s.par.arbJitterUs - s.par.wrOverheadUs) ∧
      (s.txPending = false ∨ s.txActive = true →
        t.tmrKind = .heartbeat ∧ t.tmrDeadline = s.input.now + s.par.tickUs ∧ t.txQueued = false) ∧
      t.annDeadline = (if s.annDeadline = 0 ∨ s.annDeadline < s.input.now
        then s.input.now + s.par.annIntervalUs + drawJitter s s.par.annJitterMaxUs else s.annDeadline) ∧
      t.out = (if s.annDeadline ≠ 0 ∧ s.annDeadline < s.input.now then [.appAnnounceReq] else []) ∧
      t = { s with
        now := s.input.now
        txQueued := t.txQueued
        tmrKind := t.tmrKind
        tmrDeadline := t.tmrDeadline
        annDeadline := t.annDeadline
        out := t.out
        outcome := .acted }

/-- Announce requests are never issued before the scheduler has been armed; a deadline that is armed never goes back to 0; and
a deadline at 0 is moved away from it exactly by a step that runs `CheckAnnounce`, which is then the first call
(43_announce.md R223; the callers R221, R222). -/
def Obligations.NoAnnounceBeforeArmed : Prop :=
  ∀ s t : State, step s = .next t →
    (Action.appAnnounceReq ∈ t.out → s.annDeadline ≠ 0 ∧ announceCheckNext s) ∧
    (s.annDeadline ≠ 0 → t.annDeadline ≠ 0) ∧
    (s.annDeadline = 0 → (t.annDeadline ≠ 0 ↔ announceCheckNext s))

/-- Consecutive announce deadlines are more than the base interval apart, and so are two announce requests of a run
(43_announce.md R224). -/
def Obligations.AnnounceRequestsAreSpaced : Prop :=
  (∀ s t : State, step s = .next t → s.annDeadline ≠ 0 → t.annDeadline ≠ s.annDeadline →
    s.annDeadline < t.now ∧ t.now + s.par.annIntervalUs ≤ t.annDeadline ∧
      s.annDeadline + s.par.annIntervalUs < t.annDeadline) ∧
  (∀ (s t u v : State) (k : Nat), step s = .next t → Action.appAnnounceReq ∈ t.out →
    runSteps k t = .next u → step u = .next v → Action.appAnnounceReq ∈ v.out →
    t.now + s.par.annIntervalUs < v.now)

/-! ## Timer, registers and diagnostics (44_control.md, 10_state.md) -/

/-- A TIMER_FIRE with nothing armed, or before the deadline, is ignored (44_control.md R242, R246). -/
def Obligations.EarlyTimerFireIsIgnored : Prop :=
  ∀ s : State, live s → (s.tmrKind = .none ∨ s.input.now < s.tmrDeadline) →
    exec .timerFire s = .next { s with now := s.input.now, out := [], outcome := .ignored }

/-- REG_READ emits the value of the register map, before INIT, after it and while halted, and changes nothing but `NOW`, which a
halted machine does not latch (44_control.md R240, R243; 10_state.md R52, R54). -/
def Obligations.RegReadFollowsRegisterMap : Prop :=
  ∀ (s : State) (a : BitVec 8), (Instr.regRead a).wf = true → s.now ≤ s.input.now →
    exec (.regRead a) s = .next { s with
      now := if s.halted then s.now else s.input.now
      out := [.readData (
        if a = 0x00#8 then s.status
        else if a = 0x08#8 then s.packetsReceived
        else if a = 0x0C#8 then s.packetsDropped
        else if a = 0x10#8 then s.busLoError
        else if a = 0x14#8 then s.busTimeoutError
        else if a = 0x18#8 then s.busUartError
        else 0#32)]
      outcome := .acted }

/-- A REG_READ with a misaligned address, which has no encoding, is refused as its word is (30_encoding.md R96; the model's
reading, log 23). -/
def Obligations.MisalignedRegReadIsRefused : Prop :=
  ∀ (s : State) (a : BitVec 8), a.extractLsb' 0 2 ≠ 0#2 →
    exec (.regRead a) s = .next { s with out := [], outcome := .refused .misaligned, refusalMark := true }

/-- DIAG_SNAPSHOT emits the seven values of one state in address order, and changes nothing but `NOW` (44_control.md R244). -/
def Obligations.SnapshotIsConsistent : Prop :=
  ∀ s : State, s.now ≤ s.input.now →
    exec .diagSnapshot s = .next { s with
      now := if s.halted then s.now else s.input.now
      out := [.readData s.status, .readData 0#32, .readData s.packetsReceived, .readData s.packetsDropped,
        .readData s.busLoError, .readData s.busTimeoutError, .readData s.busUartError]
      outcome := .acted }

/-- The fields of STATUS (10_state.md R53), among them BUSY (R48) and STARTED (R49). -/
def Obligations.StatusFieldLayout : Prop :=
  ∀ s : State,
    s.status.getLsbD 0 = s.rxActive ∧
    s.status.getLsbD 1 = s.txActive ∧
    s.status.getLsbD 2 = s.txQueued ∧
    s.status.getLsbD 3 = (s.rxActive || s.txActive || s.txQueued) ∧
    s.status.getLsbD 4 = decide (s.annDeadline ≠ 0) ∧
    s.status.getLsbD 5 = s.halted ∧
    s.status.getLsbD 6 = s.initialized ∧
    (∀ i, 7 ≤ i → s.status.getLsbD i = false) ∧
    State.reset.status = 0#32

/-- The two public queries (44_control.md R247): a read of register 0x00 shows "is started" in bit 4 and "is busy" in bit 3 and
changes no field of the machine but `NOW`; and a second read, after any run of steps none of which runs an event that acts,
shows the same value. -/
def Obligations.QueriesArePure : Prop :=
  ∀ (s : State) (inp : Input) (rest : List Input), s.par.valid = true → s.pending = inp :: rest →
    inp.word = encode (.regRead 0x00#8) → s.now ≤ inp.now →
    ∃ t val, step s = .next t ∧ t.out = [.readData val] ∧ val.getLsbD 4 = s.started ∧ val.getLsbD 3 = s.busy ∧
      t = { s with
        now := t.now, input := inp, pending := rest, out := t.out, outcome := .acted } ∧
      ∀ (k : Nat) (u : State) (again : Input) (later : List Input), runSteps k t = .next u →
        (∀ j v, 1 ≤ j → j ≤ k → runSteps j t = .next v → actsNot v.outcome = true) →
        u.pending = again :: later → again.word = encode (.regRead 0x00#8) → u.now ≤ again.now →
        ∃ v, step u = .next v ∧ v.out = [.readData val]

/-- BUS_STATE is written by no step and reads as 0 (10_state.md R43). -/
def Obligations.BusStateIsNeverWritten : Prop :=
  (∀ s t : State, step s = .next t → t.busState = s.busState) ∧ (∀ s : State, regValue s 0x04#8 = 0#32)

/-- The diagnostics counters (10_state.md R42; 60_exceptions.md R261): in every step, each goes up by 1 modulo 2^CNT_W exactly
when its cause is in the output list, and otherwise keeps its value. The last clause is the value of that increment. -/
def Obligations.CountersCountTheirCauses : Prop :=
  (∀ s t : State, step s = .next t →
    t.busTimeoutError = (if .faultNonFatal .rxTimeout ∈ t.out
      then bumpCounter s.par.cntW s.busTimeoutError else s.busTimeoutError) ∧
    t.busUartError = (if .faultNonFatal .rxUart ∈ t.out ∨ .faultNonFatal .rxShort ∈ t.out ∨
        .faultNonFatal .rxCrc ∈ t.out
      then bumpCounter s.par.cntW s.busUartError else s.busUartError) ∧
    t.busLoError = (if .faultNonFatal .txRace ∈ t.out
      then bumpCounter s.par.cntW s.busLoError else s.busLoError) ∧
    t.packetsReceived = (if t.out.any isDispatch = true
      then bumpCounter s.par.cntW s.packetsReceived else s.packetsReceived) ∧
    t.packetsDropped = (if t.out.any isDispatch = true ∧ t.input.accept = .rejected
      then bumpCounter s.par.cntW s.packetsDropped else s.packetsDropped)) ∧
  (∀ (w : Nat) (c : RegWord), w ≤ 32 → (bumpCounter w c).toNat = (c.toNat + 1) % 2 ^ w)

/-! ## Faults (60_exceptions.md) -/

/-- Which events can raise which fault: an event that the table of 60_exceptions.md R262 does not name for a fault never
raises it. -/
def Obligations.FaultsByEvent : Prop :=
  ∀ (s t : State) (i : Instr) (a : Action), exec i s = .next t → a ∈ t.out → isFault a = true →
    ((∃ wh, i = .lineFall wh) ∧ a = .faultFatal .rxReentry) ∨
    (i = .lineFall false ∧ a = .faultNonFatal .rxTimeout) ∨
    ((∃ e, i = .rxDone e) ∧
      (a = .faultNonFatal .rxUart ∨ a = .faultNonFatal .rxShort ∨ a = .faultNonFatal .rxCrc)) ∨
    (i = .timerFire ∧ ((s.tmrKind = .hdrGuard ∧ s.rxCount = 0) ∨ s.tmrKind = .rxDeadline) ∧
      a = .faultNonFatal .rxTimeout) ∨
    (i = .timerFire ∧ s.tmrKind = .pulse ∧ a = .faultNonFatal .txRace)

/-- One step raises at most one fault, fatal or non-fatal (60_exceptions.md R266). -/
def Obligations.AtMostOneFaultAStep : Prop :=
  ∀ s t : State, step s = .next t → (t.out.filter isFault).length ≤ 1

/-! ## Invariants (10_state.md R56) -/

/-- What reset leaves: the table of 70_reset_and_hazards.md R290, for every admitted parameter set and all events to come, and
so the invariant. -/
def Obligations.ResetLeavesTableAndInvariant : Prop :=
  ∀ (p : Params) (es : List Input), p.valid = true → ∀ s : State, s = fromReset p es →
    (s.rxActive = false ∧ s.txActive = false ∧ s.txQueued = false ∧ s.txPending = false ∧ s.txFrame = none) ∧
    (∀ ix i, s.slotByte ix i = 0#8) ∧ s.activeSlot = .s0 ∧ s.rxCount = 0 ∧
    (s.annDeadline = 0 ∧ s.annCnt = 0) ∧
    (s.packetsReceived = 0#32 ∧ s.packetsDropped = 0#32 ∧ s.busLoError = 0#32 ∧ s.busTimeoutError = 0#32 ∧
      s.busUartError = 0#32 ∧ s.busState = 0#32) ∧
    (s.tmrKind = .none ∧ s.tmrDeadline = 0) ∧
    (s.initialized = false ∧ s.halted = false ∧ s.now = 0 ∧ s.refusalMark = false) ∧
    s.status = 0#32 ∧ Inv s

/-- Every step keeps the invariant: the canonical form and the bounds of both slots, the width of the counters, the quiet
state before INIT, and the nine items of 10_state.md R56 after it. -/
def Obligations.StepKeepsInvariant : Prop :=
  ∀ s t : State, Inv s → step s = .next t → Inv t

/-- The items of 10_state.md R56 hold in every state reached from reset by admitted events with `INITIALIZED = 1` and `HALTED =
0`, and so in the end state of every run, clean or not; the states reached by admitted events are the end states of the runs
in which no step was REFUSED (70_reset_and_hazards.md R307, R308). -/
def Obligations.ReachedStatesMeetR56 : Prop :=
  (∀ s : State, Reachable s → s.initialized = true → s.halted = false → betweenSteps s) ∧
  (∀ s : State, RunEnd s → s.initialized = true → betweenSteps s) ∧
  (∀ s : State, Reachable s ↔ RunEnd s ∧ s.refusalMark = false)

/-- "Each event makes forward progress in one step" (20_memory.md R83): under the invariant no step stops, whatever the
environment delivers, and a delivered event is consumed. That a step with no event is an idle next state, and a refused word
a next state with the mark set, are the model's forms (log 2, log 4). -/
def Obligations.EveryStepMakesProgress : Prop :=
  ∀ s : State, Inv s → ∃ t, step s = .next t ∧ t.pending = s.pending.tail

/-- The four TX phases are disjoint and cover every state between steps (10_state.md R51). -/
def Obligations.TxPhasesPartition : Prop :=
  ∀ s : State, Inv s →
    ([s.txTransmitting, s.txArbitrating, s.txQueuedPhase, s.txIdle].filter id).length = 1

/-- While receiving, exactly one of the two sub-phases holds (10_state.md R50), and a pulse never fires on a busy bus
(10_state.md R57). -/
def Obligations.RxPhasesAndPulse : Prop :=
  ∀ s : State, Inv s → s.initialized = true →
    (s.rxReceiving = (s.rxHeaderWait || s.rxBodyWait)) ∧ ((s.rxHeaderWait && s.rxBodyWait) = false) ∧
    (s.tmrKind = .pulse → s.rxActive = false ∧ s.txActive = false)
end

