-- ==== Sys2Proof/Laws/Memory.lean ====
section
/-! SUPPORT. A slot reads back what was written, every other offset is left alone, and every memory operation
keeps the canonical form (20_memory.md R70, R77). -/

namespace Sys2Proof.Machine

@[simp] theorem readCell_nil (i : Nat) : readCell [] i = resetByte := rfl

@[simp] theorem readCell_cons (a : Nat) (b : Byte) (m : Memory) (i : Nat) :
    readCell ((a, b) :: m) i = if a = i then b else readCell m i := rfl

theorem Memory.wf_nil : Memory.wf [] := by decide

theorem Memory.wf_cons (a : Nat) (b : Byte) (m : Memory) :
    Memory.wf ((a, b) :: m) ↔ (∀ c ∈ m, a < c.1) ∧ b ≠ resetByte ∧ Memory.wf m := by
  simp only [Memory.wf, List.map_cons, List.pairwise_cons, List.mem_map, List.mem_cons,
    forall_exists_index, and_imp, forall_apply_eq_imp_iff₂, forall_eq_or_imp]
  tauto

/-- An offset below every listed one reads as after reset. -/
theorem readCell_of_below (m : Memory) (i : Nat) (h : ∀ c ∈ m, i < c.1) : readCell m i = resetByte := by
  induction m with
  | nil => rfl
  | cons c m ih =>
    obtain ⟨a, b⟩ := c
    have ha : i < a := h (a, b) List.mem_cons_self
    rw [readCell_cons, if_neg (by omega)]
    exact ih fun c hc => h c (List.mem_cons_of_mem _ hc)

theorem mem_writeCell (m : Memory) (i : Nat) (b : Byte) (c : Host.Cell) (h : c ∈ writeCell m i b) :
    c ∈ m ∨ (c = (i, b) ∧ b ≠ resetByte) := by
  induction m with
  | nil =>
    simp only [writeCell] at h
    split at h
    · simp at h
    · next hb => exact .inr ⟨by simpa using h, hb⟩
  | cons d m ih =>
    obtain ⟨a, e⟩ := d
    simp only [writeCell] at h
    split_ifs at h with h1 h2 h3 h4
    · exact .inl h
    · rcases List.mem_cons.mp h with rfl | h
      · exact .inr ⟨rfl, h2⟩
      · exact .inl h
    · exact .inl (List.mem_cons_of_mem _ h)
    · rcases List.mem_cons.mp h with rfl | h
      · exact .inr ⟨rfl, h4⟩
      · exact .inl (List.mem_cons_of_mem _ h)
    · rcases List.mem_cons.mp h with rfl | h
      · exact .inl List.mem_cons_self
      · rcases ih h with h | h
        · exact .inl (List.mem_cons_of_mem _ h)
        · exact .inr h

/-- A write keeps the canonical form. -/
theorem writeCell_wf (m : Memory) (i : Nat) (b : Byte) (h : Memory.wf m) : Memory.wf (writeCell m i b) := by
  induction m with
  | nil =>
    simp only [writeCell]
    split
    · exact Memory.wf_nil
    · next hb => exact (Memory.wf_cons _ _ _).mpr ⟨by simp, hb, Memory.wf_nil⟩
  | cons d m ih =>
    obtain ⟨a, e⟩ := d
    obtain ⟨hlt, he, hm⟩ := (Memory.wf_cons _ _ _).mp h
    simp only [writeCell]
    split_ifs with h1 h2 h3 h4
    · exact h
    · refine (Memory.wf_cons _ _ _).mpr ⟨fun c hc => ?_, h2, h⟩
      rcases List.mem_cons.mp hc with rfl | hc
      · exact h1
      · exact lt_trans h1 (hlt c hc)
    · exact hm
    · exact (Memory.wf_cons _ _ _).mpr ⟨fun c hc => h3 ▸ hlt c hc, h4, hm⟩
    · refine (Memory.wf_cons _ _ _).mpr ⟨fun c hc => ?_, he, ih hm⟩
      rcases mem_writeCell m i b c hc with hc | ⟨rfl, _⟩
      · exact hlt c hc
      · show a < i
        omega

/-- A write below the bound keeps every listed offset below it. -/
theorem writeCell_within (m : Memory) (i n : Nat) (b : Byte) (h : Memory.within m n) (hi : i < n) :
    Memory.within (writeCell m i b) n := by
  intro c hc
  rcases mem_writeCell m i b c hc with hc | ⟨rfl, _⟩
  · exact h c hc
  · exact hi

/-- In canonical form, the written offset reads the written byte and every other offset reads as before. -/
theorem readCell_writeCell (m : Memory) (i j : Nat) (b : Byte) (h : Memory.wf m) :
    readCell (writeCell m i b) j = if j = i then b else readCell m j := by
  induction m with
  | nil =>
    simp only [writeCell]
    split
    · next hb => simp [hb]
    · simp [eq_comm]
  | cons d m ih =>
    obtain ⟨a, e⟩ := d
    obtain ⟨hlt, _, hm⟩ := (Memory.wf_cons _ _ _).mp h
    have below : i ≤ a → readCell m i = resetByte := fun hia =>
      readCell_of_below m i fun c hc => lt_of_le_of_lt hia (hlt c hc)
    by_cases hji : j = i
    · subst hji
      rw [if_pos rfl]
      simp only [writeCell]
      split_ifs with h1 h2 h3 h4
      · rw [readCell_cons, if_neg (by omega), below (le_of_lt h1), h2]
      · simp
      · rw [below (le_of_eq h3), h4]
      · simp
      · rw [readCell_cons, if_neg (Ne.symm h3), ih hm, if_pos rfl]
    · rw [if_neg hji]
      simp only [writeCell]
      split_ifs with h1 h2 h3 h4
      · rfl
      · rw [readCell_cons, if_neg (Ne.symm hji)]
      · rw [readCell_cons, if_neg (h3 ▸ Ne.symm hji)]
      · rw [readCell_cons, readCell_cons, if_neg (Ne.symm hji), if_neg (h3 ▸ Ne.symm hji)]
      · rw [readCell_cons, readCell_cons, ih hm, if_neg hji]

theorem clearBelow_wf (m : Memory) (n : Nat) (h : Memory.wf m) : Memory.wf (clearBelow m n) := by
  refine ⟨?_, fun c hc => h.2 c (List.mem_of_mem_filter hc)⟩
  exact h.1.sublist (List.filter_sublist.map _)

theorem clearBelow_within (m : Memory) (k n : Nat) (h : Memory.within m k) :
    Memory.within (clearBelow m n) k := fun c hc => h c (List.mem_of_mem_filter hc)

/-- Zeroing reads as 0 below the bound and as before above it. -/
theorem readCell_clearBelow (m : Memory) (n i : Nat) :
    readCell (clearBelow m n) i = if i < n then resetByte else readCell m i := by
  induction m with
  | nil => simp [clearBelow]
  | cons d m ih =>
    obtain ⟨a, e⟩ := d
    by_cases hn : n ≤ a
    · have hc : clearBelow ((a, e) :: m) n = (a, e) :: clearBelow m n := by simp [clearBelow, hn]
      rw [hc, readCell_cons, ih, readCell_cons]
      split_ifs <;> first | rfl | omega
    · have hc : clearBelow ((a, e) :: m) n = clearBelow m n := by simp [clearBelow, hn]
      rw [hc, ih, readCell_cons]
      split_ifs <;> first | rfl | omega

/-- A slot within its bound is empty once it is zeroed. -/
theorem clearBelow_eq_nil (m : Memory) (n : Nat) (h : Memory.within m n) : clearBelow m n = [] := by
  unfold clearBelow
  rw [List.filter_eq_nil_iff]
  intro c hc
  simpa using h c hc

end Sys2Proof.Machine
end

