-- ==== Sys2Proof/Laws/State.lean ====
section
/-! SUPPORT. The lemmas of the state record: one per field per named update, so that no later proof unfolds a
record update. -/

namespace Sys2Proof.Machine

variable (s : State)

@[simp] theorem State.emit_par (a : Action) : (s.emit a).par = s.par := rfl
@[simp] theorem State.emit_rxActive (a : Action) : (s.emit a).rxActive = s.rxActive := rfl
@[simp] theorem State.emit_txActive (a : Action) : (s.emit a).txActive = s.txActive := rfl
@[simp] theorem State.emit_txQueued (a : Action) : (s.emit a).txQueued = s.txQueued := rfl
@[simp] theorem State.emit_txPending (a : Action) : (s.emit a).txPending = s.txPending := rfl
@[simp] theorem State.emit_txFrame (a : Action) : (s.emit a).txFrame = s.txFrame := rfl
@[simp] theorem State.emit_rxSlot0 (a : Action) : (s.emit a).rxSlot0 = s.rxSlot0 := rfl
@[simp] theorem State.emit_rxSlot1 (a : Action) : (s.emit a).rxSlot1 = s.rxSlot1 := rfl
@[simp] theorem State.emit_activeSlot (a : Action) : (s.emit a).activeSlot = s.activeSlot := rfl
@[simp] theorem State.emit_rxCount (a : Action) : (s.emit a).rxCount = s.rxCount := rfl
@[simp] theorem State.emit_annDeadline (a : Action) : (s.emit a).annDeadline = s.annDeadline := rfl
@[simp] theorem State.emit_annCnt (a : Action) : (s.emit a).annCnt = s.annCnt := rfl
@[simp] theorem State.emit_packetsReceived (a : Action) : (s.emit a).packetsReceived = s.packetsReceived := rfl
@[simp] theorem State.emit_packetsDropped (a : Action) : (s.emit a).packetsDropped = s.packetsDropped := rfl
@[simp] theorem State.emit_busLoError (a : Action) : (s.emit a).busLoError = s.busLoError := rfl
@[simp] theorem State.emit_busTimeoutError (a : Action) : (s.emit a).busTimeoutError = s.busTimeoutError := rfl
@[simp] theorem State.emit_busUartError (a : Action) : (s.emit a).busUartError = s.busUartError := rfl
@[simp] theorem State.emit_busState (a : Action) : (s.emit a).busState = s.busState := rfl
@[simp] theorem State.emit_tmrKind (a : Action) : (s.emit a).tmrKind = s.tmrKind := rfl
@[simp] theorem State.emit_tmrDeadline (a : Action) : (s.emit a).tmrDeadline = s.tmrDeadline := rfl
@[simp] theorem State.emit_initialized (a : Action) : (s.emit a).initialized = s.initialized := rfl
@[simp] theorem State.emit_halted (a : Action) : (s.emit a).halted = s.halted := rfl
@[simp] theorem State.emit_now (a : Action) : (s.emit a).now = s.now := rfl
@[simp] theorem State.emit_refusalMark (a : Action) : (s.emit a).refusalMark = s.refusalMark := rfl
@[simp] theorem State.emit_input (a : Action) : (s.emit a).input = s.input := rfl
@[simp] theorem State.emit_pending (a : Action) : (s.emit a).pending = s.pending := rfl
@[simp] theorem State.emit_out (a : Action) : (s.emit a).out = s.out ++ [a] := rfl
@[simp] theorem State.emit_outcome (a : Action) : (s.emit a).outcome = s.outcome := rfl

@[simp] theorem State.armTimer_par (k : TimerKind) (t : Nat) : (s.armTimer k t).par = s.par := rfl
@[simp] theorem State.armTimer_rxActive (k : TimerKind) (t : Nat) : (s.armTimer k t).rxActive = s.rxActive := rfl
@[simp] theorem State.armTimer_txActive (k : TimerKind) (t : Nat) : (s.armTimer k t).txActive = s.txActive := rfl
@[simp] theorem State.armTimer_txQueued (k : TimerKind) (t : Nat) : (s.armTimer k t).txQueued = s.txQueued := rfl
@[simp] theorem State.armTimer_txPending (k : TimerKind) (t : Nat) : (s.armTimer k t).txPending = s.txPending := rfl
@[simp] theorem State.armTimer_txFrame (k : TimerKind) (t : Nat) : (s.armTimer k t).txFrame = s.txFrame := rfl
@[simp] theorem State.armTimer_rxSlot0 (k : TimerKind) (t : Nat) : (s.armTimer k t).rxSlot0 = s.rxSlot0 := rfl
@[simp] theorem State.armTimer_rxSlot1 (k : TimerKind) (t : Nat) : (s.armTimer k t).rxSlot1 = s.rxSlot1 := rfl
@[simp] theorem State.armTimer_activeSlot (k : TimerKind) (t : Nat) : (s.armTimer k t).activeSlot = s.activeSlot := rfl
@[simp] theorem State.armTimer_rxCount (k : TimerKind) (t : Nat) : (s.armTimer k t).rxCount = s.rxCount := rfl
@[simp] theorem State.armTimer_annDeadline (k : TimerKind) (t : Nat) : (s.armTimer k t).annDeadline = s.annDeadline := rfl
@[simp] theorem State.armTimer_annCnt (k : TimerKind) (t : Nat) : (s.armTimer k t).annCnt = s.annCnt := rfl
@[simp] theorem State.armTimer_packetsReceived (k : TimerKind) (t : Nat) : (s.armTimer k t).packetsReceived = s.packetsReceived := rfl
@[simp] theorem State.armTimer_packetsDropped (k : TimerKind) (t : Nat) : (s.armTimer k t).packetsDropped = s.packetsDropped := rfl
@[simp] theorem State.armTimer_busLoError (k : TimerKind) (t : Nat) : (s.armTimer k t).busLoError = s.busLoError := rfl
@[simp] theorem State.armTimer_busTimeoutError (k : TimerKind) (t : Nat) : (s.armTimer k t).busTimeoutError = s.busTimeoutError := rfl
@[simp] theorem State.armTimer_busUartError (k : TimerKind) (t : Nat) : (s.armTimer k t).busUartError = s.busUartError := rfl
@[simp] theorem State.armTimer_busState (k : TimerKind) (t : Nat) : (s.armTimer k t).busState = s.busState := rfl
@[simp] theorem State.armTimer_tmrKind (k : TimerKind) (t : Nat) : (s.armTimer k t).tmrKind = k := rfl
@[simp] theorem State.armTimer_tmrDeadline (k : TimerKind) (t : Nat) : (s.armTimer k t).tmrDeadline = t := rfl
@[simp] theorem State.armTimer_initialized (k : TimerKind) (t : Nat) : (s.armTimer k t).initialized = s.initialized := rfl
@[simp] theorem State.armTimer_halted (k : TimerKind) (t : Nat) : (s.armTimer k t).halted = s.halted := rfl
@[simp] theorem State.armTimer_now (k : TimerKind) (t : Nat) : (s.armTimer k t).now = s.now := rfl
@[simp] theorem State.armTimer_refusalMark (k : TimerKind) (t : Nat) : (s.armTimer k t).refusalMark = s.refusalMark := rfl
@[simp] theorem State.armTimer_input (k : TimerKind) (t : Nat) : (s.armTimer k t).input = s.input := rfl
@[simp] theorem State.armTimer_pending (k : TimerKind) (t : Nat) : (s.armTimer k t).pending = s.pending := rfl
@[simp] theorem State.armTimer_out (k : TimerKind) (t : Nat) : (s.armTimer k t).out = s.out := rfl
@[simp] theorem State.armTimer_outcome (k : TimerKind) (t : Nat) : (s.armTimer k t).outcome = s.outcome := rfl

@[simp] theorem State.countReceived_par : (s.countReceived).par = s.par := rfl
@[simp] theorem State.countReceived_rxActive : (s.countReceived).rxActive = s.rxActive := rfl
@[simp] theorem State.countReceived_txActive : (s.countReceived).txActive = s.txActive := rfl
@[simp] theorem State.countReceived_txQueued : (s.countReceived).txQueued = s.txQueued := rfl
@[simp] theorem State.countReceived_txPending : (s.countReceived).txPending = s.txPending := rfl
@[simp] theorem State.countReceived_txFrame : (s.countReceived).txFrame = s.txFrame := rfl
@[simp] theorem State.countReceived_rxSlot0 : (s.countReceived).rxSlot0 = s.rxSlot0 := rfl
@[simp] theorem State.countReceived_rxSlot1 : (s.countReceived).rxSlot1 = s.rxSlot1 := rfl
@[simp] theorem State.countReceived_activeSlot : (s.countReceived).activeSlot = s.activeSlot := rfl
@[simp] theorem State.countReceived_rxCount : (s.countReceived).rxCount = s.rxCount := rfl
@[simp] theorem State.countReceived_annDeadline : (s.countReceived).annDeadline = s.annDeadline := rfl
@[simp] theorem State.countReceived_annCnt : (s.countReceived).annCnt = s.annCnt := rfl
@[simp] theorem State.countReceived_packetsReceived : (s.countReceived).packetsReceived = bumpCounter s.par.cntW s.packetsReceived := rfl
@[simp] theorem State.countReceived_packetsDropped : (s.countReceived).packetsDropped = s.packetsDropped := rfl
@[simp] theorem State.countReceived_busLoError : (s.countReceived).busLoError = s.busLoError := rfl
@[simp] theorem State.countReceived_busTimeoutError : (s.countReceived).busTimeoutError = s.busTimeoutError := rfl
@[simp] theorem State.countReceived_busUartError : (s.countReceived).busUartError = s.busUartError := rfl
@[simp] theorem State.countReceived_busState : (s.countReceived).busState = s.busState := rfl
@[simp] theorem State.countReceived_tmrKind : (s.countReceived).tmrKind = s.tmrKind := rfl
@[simp] theorem State.countReceived_tmrDeadline : (s.countReceived).tmrDeadline = s.tmrDeadline := rfl
@[simp] theorem State.countReceived_initialized : (s.countReceived).initialized = s.initialized := rfl
@[simp] theorem State.countReceived_halted : (s.countReceived).halted = s.halted := rfl
@[simp] theorem State.countReceived_now : (s.countReceived).now = s.now := rfl
@[simp] theorem State.countReceived_refusalMark : (s.countReceived).refusalMark = s.refusalMark := rfl
@[simp] theorem State.countReceived_input : (s.countReceived).input = s.input := rfl
@[simp] theorem State.countReceived_pending : (s.countReceived).pending = s.pending := rfl
@[simp] theorem State.countReceived_out : (s.countReceived).out = s.out := rfl
@[simp] theorem State.countReceived_outcome : (s.countReceived).outcome = s.outcome := rfl

@[simp] theorem State.countDropped_par : (s.countDropped).par = s.par := rfl
@[simp] theorem State.countDropped_rxActive : (s.countDropped).rxActive = s.rxActive := rfl
@[simp] theorem State.countDropped_txActive : (s.countDropped).txActive = s.txActive := rfl
@[simp] theorem State.countDropped_txQueued : (s.countDropped).txQueued = s.txQueued := rfl
@[simp] theorem State.countDropped_txPending : (s.countDropped).txPending = s.txPending := rfl
@[simp] theorem State.countDropped_txFrame : (s.countDropped).txFrame = s.txFrame := rfl
@[simp] theorem State.countDropped_rxSlot0 : (s.countDropped).rxSlot0 = s.rxSlot0 := rfl
@[simp] theorem State.countDropped_rxSlot1 : (s.countDropped).rxSlot1 = s.rxSlot1 := rfl
@[simp] theorem State.countDropped_activeSlot : (s.countDropped).activeSlot = s.activeSlot := rfl
@[simp] theorem State.countDropped_rxCount : (s.countDropped).rxCount = s.rxCount := rfl
@[simp] theorem State.countDropped_annDeadline : (s.countDropped).annDeadline = s.annDeadline := rfl
@[simp] theorem State.countDropped_annCnt : (s.countDropped).annCnt = s.annCnt := rfl
@[simp] theorem State.countDropped_packetsReceived : (s.countDropped).packetsReceived = s.packetsReceived := rfl
@[simp] theorem State.countDropped_packetsDropped : (s.countDropped).packetsDropped = bumpCounter s.par.cntW s.packetsDropped := rfl
@[simp] theorem State.countDropped_busLoError : (s.countDropped).busLoError = s.busLoError := rfl
@[simp] theorem State.countDropped_busTimeoutError : (s.countDropped).busTimeoutError = s.busTimeoutError := rfl
@[simp] theorem State.countDropped_busUartError : (s.countDropped).busUartError = s.busUartError := rfl
@[simp] theorem State.countDropped_busState : (s.countDropped).busState = s.busState := rfl
@[simp] theorem State.countDropped_tmrKind : (s.countDropped).tmrKind = s.tmrKind := rfl
@[simp] theorem State.countDropped_tmrDeadline : (s.countDropped).tmrDeadline = s.tmrDeadline := rfl
@[simp] theorem State.countDropped_initialized : (s.countDropped).initialized = s.initialized := rfl
@[simp] theorem State.countDropped_halted : (s.countDropped).halted = s.halted := rfl
@[simp] theorem State.countDropped_now : (s.countDropped).now = s.now := rfl
@[simp] theorem State.countDropped_refusalMark : (s.countDropped).refusalMark = s.refusalMark := rfl
@[simp] theorem State.countDropped_input : (s.countDropped).input = s.input := rfl
@[simp] theorem State.countDropped_pending : (s.countDropped).pending = s.pending := rfl
@[simp] theorem State.countDropped_out : (s.countDropped).out = s.out := rfl
@[simp] theorem State.countDropped_outcome : (s.countDropped).outcome = s.outcome := rfl

@[simp] theorem State.countLoError_par : (s.countLoError).par = s.par := rfl
@[simp] theorem State.countLoError_rxActive : (s.countLoError).rxActive = s.rxActive := rfl
@[simp] theorem State.countLoError_txActive : (s.countLoError).txActive = s.txActive := rfl
@[simp] theorem State.countLoError_txQueued : (s.countLoError).txQueued = s.txQueued := rfl
@[simp] theorem State.countLoError_txPending : (s.countLoError).txPending = s.txPending := rfl
@[simp] theorem State.countLoError_txFrame : (s.countLoError).txFrame = s.txFrame := rfl
@[simp] theorem State.countLoError_rxSlot0 : (s.countLoError).rxSlot0 = s.rxSlot0 := rfl
@[simp] theorem State.countLoError_rxSlot1 : (s.countLoError).rxSlot1 = s.rxSlot1 := rfl
@[simp] theorem State.countLoError_activeSlot : (s.countLoError).activeSlot = s.activeSlot := rfl
@[simp] theorem State.countLoError_rxCount : (s.countLoError).rxCount = s.rxCount := rfl
@[simp] theorem State.countLoError_annDeadline : (s.countLoError).annDeadline = s.annDeadline := rfl
@[simp] theorem State.countLoError_annCnt : (s.countLoError).annCnt = s.annCnt := rfl
@[simp] theorem State.countLoError_packetsReceived : (s.countLoError).packetsReceived = s.packetsReceived := rfl
@[simp] theorem State.countLoError_packetsDropped : (s.countLoError).packetsDropped = s.packetsDropped := rfl
@[simp] theorem State.countLoError_busLoError : (s.countLoError).busLoError = bumpCounter s.par.cntW s.busLoError := rfl
@[simp] theorem State.countLoError_busTimeoutError : (s.countLoError).busTimeoutError = s.busTimeoutError := rfl
@[simp] theorem State.countLoError_busUartError : (s.countLoError).busUartError = s.busUartError := rfl
@[simp] theorem State.countLoError_busState : (s.countLoError).busState = s.busState := rfl
@[simp] theorem State.countLoError_tmrKind : (s.countLoError).tmrKind = s.tmrKind := rfl
@[simp] theorem State.countLoError_tmrDeadline : (s.countLoError).tmrDeadline = s.tmrDeadline := rfl
@[simp] theorem State.countLoError_initialized : (s.countLoError).initialized = s.initialized := rfl
@[simp] theorem State.countLoError_halted : (s.countLoError).halted = s.halted := rfl
@[simp] theorem State.countLoError_now : (s.countLoError).now = s.now := rfl
@[simp] theorem State.countLoError_refusalMark : (s.countLoError).refusalMark = s.refusalMark := rfl
@[simp] theorem State.countLoError_input : (s.countLoError).input = s.input := rfl
@[simp] theorem State.countLoError_pending : (s.countLoError).pending = s.pending := rfl
@[simp] theorem State.countLoError_out : (s.countLoError).out = s.out := rfl
@[simp] theorem State.countLoError_outcome : (s.countLoError).outcome = s.outcome := rfl

@[simp] theorem State.countTimeoutError_par : (s.countTimeoutError).par = s.par := rfl
@[simp] theorem State.countTimeoutError_rxActive : (s.countTimeoutError).rxActive = s.rxActive := rfl
@[simp] theorem State.countTimeoutError_txActive : (s.countTimeoutError).txActive = s.txActive := rfl
@[simp] theorem State.countTimeoutError_txQueued : (s.countTimeoutError).txQueued = s.txQueued := rfl
@[simp] theorem State.countTimeoutError_txPending : (s.countTimeoutError).txPending = s.txPending := rfl
@[simp] theorem State.countTimeoutError_txFrame : (s.countTimeoutError).txFrame = s.txFrame := rfl
@[simp] theorem State.countTimeoutError_rxSlot0 : (s.countTimeoutError).rxSlot0 = s.rxSlot0 := rfl
@[simp] theorem State.countTimeoutError_rxSlot1 : (s.countTimeoutError).rxSlot1 = s.rxSlot1 := rfl
@[simp] theorem State.countTimeoutError_activeSlot : (s.countTimeoutError).activeSlot = s.activeSlot := rfl
@[simp] theorem State.countTimeoutError_rxCount : (s.countTimeoutError).rxCount = s.rxCount := rfl
@[simp] theorem State.countTimeoutError_annDeadline : (s.countTimeoutError).annDeadline = s.annDeadline := rfl
@[simp] theorem State.countTimeoutError_annCnt : (s.countTimeoutError).annCnt = s.annCnt := rfl
@[simp] theorem State.countTimeoutError_packetsReceived : (s.countTimeoutError).packetsReceived = s.packetsReceived := rfl
@[simp] theorem State.countTimeoutError_packetsDropped : (s.countTimeoutError).packetsDropped = s.packetsDropped := rfl
@[simp] theorem State.countTimeoutError_busLoError : (s.countTimeoutError).busLoError = s.busLoError := rfl
@[simp] theorem State.countTimeoutError_busTimeoutError : (s.countTimeoutError).busTimeoutError = bumpCounter s.par.cntW s.busTimeoutError := rfl
@[simp] theorem State.countTimeoutError_busUartError : (s.countTimeoutError).busUartError = s.busUartError := rfl
@[simp] theorem State.countTimeoutError_busState : (s.countTimeoutError).busState = s.busState := rfl
@[simp] theorem State.countTimeoutError_tmrKind : (s.countTimeoutError).tmrKind = s.tmrKind := rfl
@[simp] theorem State.countTimeoutError_tmrDeadline : (s.countTimeoutError).tmrDeadline = s.tmrDeadline := rfl
@[simp] theorem State.countTimeoutError_initialized : (s.countTimeoutError).initialized = s.initialized := rfl
@[simp] theorem State.countTimeoutError_halted : (s.countTimeoutError).halted = s.halted := rfl
@[simp] theorem State.countTimeoutError_now : (s.countTimeoutError).now = s.now := rfl
@[simp] theorem State.countTimeoutError_refusalMark : (s.countTimeoutError).refusalMark = s.refusalMark := rfl
@[simp] theorem State.countTimeoutError_input : (s.countTimeoutError).input = s.input := rfl
@[simp] theorem State.countTimeoutError_pending : (s.countTimeoutError).pending = s.pending := rfl
@[simp] theorem State.countTimeoutError_out : (s.countTimeoutError).out = s.out := rfl
@[simp] theorem State.countTimeoutError_outcome : (s.countTimeoutError).outcome = s.outcome := rfl

@[simp] theorem State.countUartError_par : (s.countUartError).par = s.par := rfl
@[simp] theorem State.countUartError_rxActive : (s.countUartError).rxActive = s.rxActive := rfl
@[simp] theorem State.countUartError_txActive : (s.countUartError).txActive = s.txActive := rfl
@[simp] theorem State.countUartError_txQueued : (s.countUartError).txQueued = s.txQueued := rfl
@[simp] theorem State.countUartError_txPending : (s.countUartError).txPending = s.txPending := rfl
@[simp] theorem State.countUartError_txFrame : (s.countUartError).txFrame = s.txFrame := rfl
@[simp] theorem State.countUartError_rxSlot0 : (s.countUartError).rxSlot0 = s.rxSlot0 := rfl
@[simp] theorem State.countUartError_rxSlot1 : (s.countUartError).rxSlot1 = s.rxSlot1 := rfl
@[simp] theorem State.countUartError_activeSlot : (s.countUartError).activeSlot = s.activeSlot := rfl
@[simp] theorem State.countUartError_rxCount : (s.countUartError).rxCount = s.rxCount := rfl
@[simp] theorem State.countUartError_annDeadline : (s.countUartError).annDeadline = s.annDeadline := rfl
@[simp] theorem State.countUartError_annCnt : (s.countUartError).annCnt = s.annCnt := rfl
@[simp] theorem State.countUartError_packetsReceived : (s.countUartError).packetsReceived = s.packetsReceived := rfl
@[simp] theorem State.countUartError_packetsDropped : (s.countUartError).packetsDropped = s.packetsDropped := rfl
@[simp] theorem State.countUartError_busLoError : (s.countUartError).busLoError = s.busLoError := rfl
@[simp] theorem State.countUartError_busTimeoutError : (s.countUartError).busTimeoutError = s.busTimeoutError := rfl
@[simp] theorem State.countUartError_busUartError : (s.countUartError).busUartError = bumpCounter s.par.cntW s.busUartError := rfl
@[simp] theorem State.countUartError_busState : (s.countUartError).busState = s.busState := rfl
@[simp] theorem State.countUartError_tmrKind : (s.countUartError).tmrKind = s.tmrKind := rfl
@[simp] theorem State.countUartError_tmrDeadline : (s.countUartError).tmrDeadline = s.tmrDeadline := rfl
@[simp] theorem State.countUartError_initialized : (s.countUartError).initialized = s.initialized := rfl
@[simp] theorem State.countUartError_halted : (s.countUartError).halted = s.halted := rfl
@[simp] theorem State.countUartError_now : (s.countUartError).now = s.now := rfl
@[simp] theorem State.countUartError_refusalMark : (s.countUartError).refusalMark = s.refusalMark := rfl
@[simp] theorem State.countUartError_input : (s.countUartError).input = s.input := rfl
@[simp] theorem State.countUartError_pending : (s.countUartError).pending = s.pending := rfl
@[simp] theorem State.countUartError_out : (s.countUartError).out = s.out := rfl
@[simp] theorem State.countUartError_outcome : (s.countUartError).outcome = s.outcome := rfl

@[simp] theorem State.signalNonFatal_par (c : NonFatalCode) : (s.signalNonFatal c).par = s.par := rfl
@[simp] theorem State.signalNonFatal_rxActive (c : NonFatalCode) : (s.signalNonFatal c).rxActive = s.rxActive := rfl
@[simp] theorem State.signalNonFatal_txActive (c : NonFatalCode) : (s.signalNonFatal c).txActive = s.txActive := rfl
@[simp] theorem State.signalNonFatal_txQueued (c : NonFatalCode) : (s.signalNonFatal c).txQueued = s.txQueued := rfl
@[simp] theorem State.signalNonFatal_txPending (c : NonFatalCode) : (s.signalNonFatal c).txPending = s.txPending := rfl
@[simp] theorem State.signalNonFatal_txFrame (c : NonFatalCode) : (s.signalNonFatal c).txFrame = s.txFrame := rfl
@[simp] theorem State.signalNonFatal_rxSlot0 (c : NonFatalCode) : (s.signalNonFatal c).rxSlot0 = s.rxSlot0 := rfl
@[simp] theorem State.signalNonFatal_rxSlot1 (c : NonFatalCode) : (s.signalNonFatal c).rxSlot1 = s.rxSlot1 := rfl
@[simp] theorem State.signalNonFatal_activeSlot (c : NonFatalCode) : (s.signalNonFatal c).activeSlot = s.activeSlot := rfl
@[simp] theorem State.signalNonFatal_rxCount (c : NonFatalCode) : (s.signalNonFatal c).rxCount = s.rxCount := rfl
@[simp] theorem State.signalNonFatal_annDeadline (c : NonFatalCode) : (s.signalNonFatal c).annDeadline = s.annDeadline := rfl
@[simp] theorem State.signalNonFatal_annCnt (c : NonFatalCode) : (s.signalNonFatal c).annCnt = s.annCnt := rfl
@[simp] theorem State.signalNonFatal_packetsReceived (c : NonFatalCode) : (s.signalNonFatal c).packetsReceived = s.packetsReceived := rfl
@[simp] theorem State.signalNonFatal_packetsDropped (c : NonFatalCode) : (s.signalNonFatal c).packetsDropped = s.packetsDropped := rfl
@[simp] theorem State.signalNonFatal_busLoError (c : NonFatalCode) : (s.signalNonFatal c).busLoError = s.busLoError := rfl
@[simp] theorem State.signalNonFatal_busTimeoutError (c : NonFatalCode) : (s.signalNonFatal c).busTimeoutError = s.busTimeoutError := rfl
@[simp] theorem State.signalNonFatal_busUartError (c : NonFatalCode) : (s.signalNonFatal c).busUartError = s.busUartError := rfl
@[simp] theorem State.signalNonFatal_busState (c : NonFatalCode) : (s.signalNonFatal c).busState = s.busState := rfl
@[simp] theorem State.signalNonFatal_tmrKind (c : NonFatalCode) : (s.signalNonFatal c).tmrKind = s.tmrKind := rfl
@[simp] theorem State.signalNonFatal_tmrDeadline (c : NonFatalCode) : (s.signalNonFatal c).tmrDeadline = s.tmrDeadline := rfl
@[simp] theorem State.signalNonFatal_initialized (c : NonFatalCode) : (s.signalNonFatal c).initialized = s.initialized := rfl
@[simp] theorem State.signalNonFatal_halted (c : NonFatalCode) : (s.signalNonFatal c).halted = s.halted := rfl
@[simp] theorem State.signalNonFatal_now (c : NonFatalCode) : (s.signalNonFatal c).now = s.now := rfl
@[simp] theorem State.signalNonFatal_refusalMark (c : NonFatalCode) : (s.signalNonFatal c).refusalMark = s.refusalMark := rfl
@[simp] theorem State.signalNonFatal_input (c : NonFatalCode) : (s.signalNonFatal c).input = s.input := rfl
@[simp] theorem State.signalNonFatal_pending (c : NonFatalCode) : (s.signalNonFatal c).pending = s.pending := rfl
@[simp] theorem State.signalNonFatal_out (c : NonFatalCode) : (s.signalNonFatal c).out = s.out ++ [.faultNonFatal c] := rfl
@[simp] theorem State.signalNonFatal_outcome (c : NonFatalCode) : (s.signalNonFatal c).outcome = s.outcome := rfl

@[simp] theorem State.raiseFatal_par (c : FatalCode) : (s.raiseFatal c).par = s.par := rfl
@[simp] theorem State.raiseFatal_rxActive (c : FatalCode) : (s.raiseFatal c).rxActive = s.rxActive := rfl
@[simp] theorem State.raiseFatal_txActive (c : FatalCode) : (s.raiseFatal c).txActive = s.txActive := rfl
@[simp] theorem State.raiseFatal_txQueued (c : FatalCode) : (s.raiseFatal c).txQueued = s.txQueued := rfl
@[simp] theorem State.raiseFatal_txPending (c : FatalCode) : (s.raiseFatal c).txPending = s.txPending := rfl
@[simp] theorem State.raiseFatal_txFrame (c : FatalCode) : (s.raiseFatal c).txFrame = s.txFrame := rfl
@[simp] theorem State.raiseFatal_rxSlot0 (c : FatalCode) : (s.raiseFatal c).rxSlot0 = s.rxSlot0 := rfl
@[simp] theorem State.raiseFatal_rxSlot1 (c : FatalCode) : (s.raiseFatal c).rxSlot1 = s.rxSlot1 := rfl
@[simp] theorem State.raiseFatal_activeSlot (c : FatalCode) : (s.raiseFatal c).activeSlot = s.activeSlot := rfl
@[simp] theorem State.raiseFatal_rxCount (c : FatalCode) : (s.raiseFatal c).rxCount = s.rxCount := rfl
@[simp] theorem State.raiseFatal_annDeadline (c : FatalCode) : (s.raiseFatal c).annDeadline = s.annDeadline := rfl
@[simp] theorem State.raiseFatal_annCnt (c : FatalCode) : (s.raiseFatal c).annCnt = s.annCnt := rfl
@[simp] theorem State.raiseFatal_packetsReceived (c : FatalCode) : (s.raiseFatal c).packetsReceived = s.packetsReceived := rfl
@[simp] theorem State.raiseFatal_packetsDropped (c : FatalCode) : (s.raiseFatal c).packetsDropped = s.packetsDropped := rfl
@[simp] theorem State.raiseFatal_busLoError (c : FatalCode) : (s.raiseFatal c).busLoError = s.busLoError := rfl
@[simp] theorem State.raiseFatal_busTimeoutError (c : FatalCode) : (s.raiseFatal c).busTimeoutError = s.busTimeoutError := rfl
@[simp] theorem State.raiseFatal_busUartError (c : FatalCode) : (s.raiseFatal c).busUartError = s.busUartError := rfl
@[simp] theorem State.raiseFatal_busState (c : FatalCode) : (s.raiseFatal c).busState = s.busState := rfl
@[simp] theorem State.raiseFatal_tmrKind (c : FatalCode) : (s.raiseFatal c).tmrKind = s.tmrKind := rfl
@[simp] theorem State.raiseFatal_tmrDeadline (c : FatalCode) : (s.raiseFatal c).tmrDeadline = s.tmrDeadline := rfl
@[simp] theorem State.raiseFatal_initialized (c : FatalCode) : (s.raiseFatal c).initialized = s.initialized := rfl
@[simp] theorem State.raiseFatal_halted (c : FatalCode) : (s.raiseFatal c).halted = true := rfl
@[simp] theorem State.raiseFatal_now (c : FatalCode) : (s.raiseFatal c).now = s.now := rfl
@[simp] theorem State.raiseFatal_refusalMark (c : FatalCode) : (s.raiseFatal c).refusalMark = s.refusalMark := rfl
@[simp] theorem State.raiseFatal_input (c : FatalCode) : (s.raiseFatal c).input = s.input := rfl
@[simp] theorem State.raiseFatal_pending (c : FatalCode) : (s.raiseFatal c).pending = s.pending := rfl
@[simp] theorem State.raiseFatal_out (c : FatalCode) : (s.raiseFatal c).out = s.out ++ [.faultFatal c] := rfl
@[simp] theorem State.raiseFatal_outcome (c : FatalCode) : (s.raiseFatal c).outcome = .fatal c := rfl

@[simp] theorem State.ignored_par : (s.ignored).par = s.par := rfl
@[simp] theorem State.ignored_rxActive : (s.ignored).rxActive = s.rxActive := rfl
@[simp] theorem State.ignored_txActive : (s.ignored).txActive = s.txActive := rfl
@[simp] theorem State.ignored_txQueued : (s.ignored).txQueued = s.txQueued := rfl
@[simp] theorem State.ignored_txPending : (s.ignored).txPending = s.txPending := rfl
@[simp] theorem State.ignored_txFrame : (s.ignored).txFrame = s.txFrame := rfl
@[simp] theorem State.ignored_rxSlot0 : (s.ignored).rxSlot0 = s.rxSlot0 := rfl
@[simp] theorem State.ignored_rxSlot1 : (s.ignored).rxSlot1 = s.rxSlot1 := rfl
@[simp] theorem State.ignored_activeSlot : (s.ignored).activeSlot = s.activeSlot := rfl
@[simp] theorem State.ignored_rxCount : (s.ignored).rxCount = s.rxCount := rfl
@[simp] theorem State.ignored_annDeadline : (s.ignored).annDeadline = s.annDeadline := rfl
@[simp] theorem State.ignored_annCnt : (s.ignored).annCnt = s.annCnt := rfl
@[simp] theorem State.ignored_packetsReceived : (s.ignored).packetsReceived = s.packetsReceived := rfl
@[simp] theorem State.ignored_packetsDropped : (s.ignored).packetsDropped = s.packetsDropped := rfl
@[simp] theorem State.ignored_busLoError : (s.ignored).busLoError = s.busLoError := rfl
@[simp] theorem State.ignored_busTimeoutError : (s.ignored).busTimeoutError = s.busTimeoutError := rfl
@[simp] theorem State.ignored_busUartError : (s.ignored).busUartError = s.busUartError := rfl
@[simp] theorem State.ignored_busState : (s.ignored).busState = s.busState := rfl
@[simp] theorem State.ignored_tmrKind : (s.ignored).tmrKind = s.tmrKind := rfl
@[simp] theorem State.ignored_tmrDeadline : (s.ignored).tmrDeadline = s.tmrDeadline := rfl
@[simp] theorem State.ignored_initialized : (s.ignored).initialized = s.initialized := rfl
@[simp] theorem State.ignored_halted : (s.ignored).halted = s.halted := rfl
@[simp] theorem State.ignored_now : (s.ignored).now = s.now := rfl
@[simp] theorem State.ignored_refusalMark : (s.ignored).refusalMark = s.refusalMark := rfl
@[simp] theorem State.ignored_input : (s.ignored).input = s.input := rfl
@[simp] theorem State.ignored_pending : (s.ignored).pending = s.pending := rfl
@[simp] theorem State.ignored_out : (s.ignored).out = s.out := rfl
@[simp] theorem State.ignored_outcome : (s.ignored).outcome = .ignored := rfl

@[simp] theorem State.markRefused_par (r : RefuseReason) : (s.markRefused r).par = s.par := rfl
@[simp] theorem State.markRefused_rxActive (r : RefuseReason) : (s.markRefused r).rxActive = s.rxActive := rfl
@[simp] theorem State.markRefused_txActive (r : RefuseReason) : (s.markRefused r).txActive = s.txActive := rfl
@[simp] theorem State.markRefused_txQueued (r : RefuseReason) : (s.markRefused r).txQueued = s.txQueued := rfl
@[simp] theorem State.markRefused_txPending (r : RefuseReason) : (s.markRefused r).txPending = s.txPending := rfl
@[simp] theorem State.markRefused_txFrame (r : RefuseReason) : (s.markRefused r).txFrame = s.txFrame := rfl
@[simp] theorem State.markRefused_rxSlot0 (r : RefuseReason) : (s.markRefused r).rxSlot0 = s.rxSlot0 := rfl
@[simp] theorem State.markRefused_rxSlot1 (r : RefuseReason) : (s.markRefused r).rxSlot1 = s.rxSlot1 := rfl
@[simp] theorem State.markRefused_activeSlot (r : RefuseReason) : (s.markRefused r).activeSlot = s.activeSlot := rfl
@[simp] theorem State.markRefused_rxCount (r : RefuseReason) : (s.markRefused r).rxCount = s.rxCount := rfl
@[simp] theorem State.markRefused_annDeadline (r : RefuseReason) : (s.markRefused r).annDeadline = s.annDeadline := rfl
@[simp] theorem State.markRefused_annCnt (r : RefuseReason) : (s.markRefused r).annCnt = s.annCnt := rfl
@[simp] theorem State.markRefused_packetsReceived (r : RefuseReason) : (s.markRefused r).packetsReceived = s.packetsReceived := rfl
@[simp] theorem State.markRefused_packetsDropped (r : RefuseReason) : (s.markRefused r).packetsDropped = s.packetsDropped := rfl
@[simp] theorem State.markRefused_busLoError (r : RefuseReason) : (s.markRefused r).busLoError = s.busLoError := rfl
@[simp] theorem State.markRefused_busTimeoutError (r : RefuseReason) : (s.markRefused r).busTimeoutError = s.busTimeoutError := rfl
@[simp] theorem State.markRefused_busUartError (r : RefuseReason) : (s.markRefused r).busUartError = s.busUartError := rfl
@[simp] theorem State.markRefused_busState (r : RefuseReason) : (s.markRefused r).busState = s.busState := rfl
@[simp] theorem State.markRefused_tmrKind (r : RefuseReason) : (s.markRefused r).tmrKind = s.tmrKind := rfl
@[simp] theorem State.markRefused_tmrDeadline (r : RefuseReason) : (s.markRefused r).tmrDeadline = s.tmrDeadline := rfl
@[simp] theorem State.markRefused_initialized (r : RefuseReason) : (s.markRefused r).initialized = s.initialized := rfl
@[simp] theorem State.markRefused_halted (r : RefuseReason) : (s.markRefused r).halted = s.halted := rfl
@[simp] theorem State.markRefused_now (r : RefuseReason) : (s.markRefused r).now = s.now := rfl
@[simp] theorem State.markRefused_refusalMark (r : RefuseReason) : (s.markRefused r).refusalMark = true := rfl
@[simp] theorem State.markRefused_input (r : RefuseReason) : (s.markRefused r).input = s.input := rfl
@[simp] theorem State.markRefused_pending (r : RefuseReason) : (s.markRefused r).pending = s.pending := rfl
@[simp] theorem State.markRefused_out (r : RefuseReason) : (s.markRefused r).out = [] := rfl
@[simp] theorem State.markRefused_outcome (r : RefuseReason) : (s.markRefused r).outcome = .refused r := rfl

@[simp] theorem State.begin_par : (s.begin).par = s.par := rfl
@[simp] theorem State.begin_rxActive : (s.begin).rxActive = s.rxActive := rfl
@[simp] theorem State.begin_txActive : (s.begin).txActive = s.txActive := rfl
@[simp] theorem State.begin_txQueued : (s.begin).txQueued = s.txQueued := rfl
@[simp] theorem State.begin_txPending : (s.begin).txPending = s.txPending := rfl
@[simp] theorem State.begin_txFrame : (s.begin).txFrame = s.txFrame := rfl
@[simp] theorem State.begin_rxSlot0 : (s.begin).rxSlot0 = s.rxSlot0 := rfl
@[simp] theorem State.begin_rxSlot1 : (s.begin).rxSlot1 = s.rxSlot1 := rfl
@[simp] theorem State.begin_activeSlot : (s.begin).activeSlot = s.activeSlot := rfl
@[simp] theorem State.begin_rxCount : (s.begin).rxCount = s.rxCount := rfl
@[simp] theorem State.begin_annDeadline : (s.begin).annDeadline = s.annDeadline := rfl
@[simp] theorem State.begin_annCnt : (s.begin).annCnt = s.annCnt := rfl
@[simp] theorem State.begin_packetsReceived : (s.begin).packetsReceived = s.packetsReceived := rfl
@[simp] theorem State.begin_packetsDropped : (s.begin).packetsDropped = s.packetsDropped := rfl
@[simp] theorem State.begin_busLoError : (s.begin).busLoError = s.busLoError := rfl
@[simp] theorem State.begin_busTimeoutError : (s.begin).busTimeoutError = s.busTimeoutError := rfl
@[simp] theorem State.begin_busUartError : (s.begin).busUartError = s.busUartError := rfl
@[simp] theorem State.begin_busState : (s.begin).busState = s.busState := rfl
@[simp] theorem State.begin_tmrKind : (s.begin).tmrKind = s.tmrKind := rfl
@[simp] theorem State.begin_tmrDeadline : (s.begin).tmrDeadline = s.tmrDeadline := rfl
@[simp] theorem State.begin_initialized : (s.begin).initialized = s.initialized := rfl
@[simp] theorem State.begin_halted : (s.begin).halted = s.halted := rfl
@[simp] theorem State.begin_now : (s.begin).now = s.now := rfl
@[simp] theorem State.begin_refusalMark : (s.begin).refusalMark = s.refusalMark := rfl
@[simp] theorem State.begin_input : (s.begin).input = s.input := rfl
@[simp] theorem State.begin_pending : (s.begin).pending = s.pending := rfl
@[simp] theorem State.begin_out : (s.begin).out = [] := rfl
@[simp] theorem State.begin_outcome : (s.begin).outcome = .acted := rfl

@[simp] theorem State.latchNow_par : (s.latchNow).par = s.par := rfl
@[simp] theorem State.latchNow_rxActive : (s.latchNow).rxActive = s.rxActive := rfl
@[simp] theorem State.latchNow_txActive : (s.latchNow).txActive = s.txActive := rfl
@[simp] theorem State.latchNow_txQueued : (s.latchNow).txQueued = s.txQueued := rfl
@[simp] theorem State.latchNow_txPending : (s.latchNow).txPending = s.txPending := rfl
@[simp] theorem State.latchNow_txFrame : (s.latchNow).txFrame = s.txFrame := rfl
@[simp] theorem State.latchNow_rxSlot0 : (s.latchNow).rxSlot0 = s.rxSlot0 := rfl
@[simp] theorem State.latchNow_rxSlot1 : (s.latchNow).rxSlot1 = s.rxSlot1 := rfl
@[simp] theorem State.latchNow_activeSlot : (s.latchNow).activeSlot = s.activeSlot := rfl
@[simp] theorem State.latchNow_rxCount : (s.latchNow).rxCount = s.rxCount := rfl
@[simp] theorem State.latchNow_annDeadline : (s.latchNow).annDeadline = s.annDeadline := rfl
@[simp] theorem State.latchNow_annCnt : (s.latchNow).annCnt = s.annCnt := rfl
@[simp] theorem State.latchNow_packetsReceived : (s.latchNow).packetsReceived = s.packetsReceived := rfl
@[simp] theorem State.latchNow_packetsDropped : (s.latchNow).packetsDropped = s.packetsDropped := rfl
@[simp] theorem State.latchNow_busLoError : (s.latchNow).busLoError = s.busLoError := rfl
@[simp] theorem State.latchNow_busTimeoutError : (s.latchNow).busTimeoutError = s.busTimeoutError := rfl
@[simp] theorem State.latchNow_busUartError : (s.latchNow).busUartError = s.busUartError := rfl
@[simp] theorem State.latchNow_busState : (s.latchNow).busState = s.busState := rfl
@[simp] theorem State.latchNow_tmrKind : (s.latchNow).tmrKind = s.tmrKind := rfl
@[simp] theorem State.latchNow_tmrDeadline : (s.latchNow).tmrDeadline = s.tmrDeadline := rfl
@[simp] theorem State.latchNow_initialized : (s.latchNow).initialized = s.initialized := rfl
@[simp] theorem State.latchNow_halted : (s.latchNow).halted = s.halted := rfl
@[simp] theorem State.latchNow_now : (s.latchNow).now = s.input.now := rfl
@[simp] theorem State.latchNow_refusalMark : (s.latchNow).refusalMark = s.refusalMark := rfl
@[simp] theorem State.latchNow_input : (s.latchNow).input = s.input := rfl
@[simp] theorem State.latchNow_pending : (s.latchNow).pending = s.pending := rfl
@[simp] theorem State.latchNow_out : (s.latchNow).out = s.out := rfl
@[simp] theorem State.latchNow_outcome : (s.latchNow).outcome = s.outcome := rfl

@[simp] theorem State.deliver_par (inp : Input) (rest : List Input) : (s.deliver inp rest).par = s.par := rfl
@[simp] theorem State.deliver_rxActive (inp : Input) (rest : List Input) : (s.deliver inp rest).rxActive = s.rxActive := rfl
@[simp] theorem State.deliver_txActive (inp : Input) (rest : List Input) : (s.deliver inp rest).txActive = s.txActive := rfl
@[simp] theorem State.deliver_txQueued (inp : Input) (rest : List Input) : (s.deliver inp rest).txQueued = s.txQueued := rfl
@[simp] theorem State.deliver_txPending (inp : Input) (rest : List Input) : (s.deliver inp rest).txPending = s.txPending := rfl
@[simp] theorem State.deliver_txFrame (inp : Input) (rest : List Input) : (s.deliver inp rest).txFrame = s.txFrame := rfl
@[simp] theorem State.deliver_rxSlot0 (inp : Input) (rest : List Input) : (s.deliver inp rest).rxSlot0 = s.rxSlot0 := rfl
@[simp] theorem State.deliver_rxSlot1 (inp : Input) (rest : List Input) : (s.deliver inp rest).rxSlot1 = s.rxSlot1 := rfl
@[simp] theorem State.deliver_activeSlot (inp : Input) (rest : List Input) : (s.deliver inp rest).activeSlot = s.activeSlot := rfl
@[simp] theorem State.deliver_rxCount (inp : Input) (rest : List Input) : (s.deliver inp rest).rxCount = s.rxCount := rfl
@[simp] theorem State.deliver_annDeadline (inp : Input) (rest : List Input) : (s.deliver inp rest).annDeadline = s.annDeadline := rfl
@[simp] theorem State.deliver_annCnt (inp : Input) (rest : List Input) : (s.deliver inp rest).annCnt = s.annCnt := rfl
@[simp] theorem State.deliver_packetsReceived (inp : Input) (rest : List Input) : (s.deliver inp rest).packetsReceived = s.packetsReceived := rfl
@[simp] theorem State.deliver_packetsDropped (inp : Input) (rest : List Input) : (s.deliver inp rest).packetsDropped = s.packetsDropped := rfl
@[simp] theorem State.deliver_busLoError (inp : Input) (rest : List Input) : (s.deliver inp rest).busLoError = s.busLoError := rfl
@[simp] theorem State.deliver_busTimeoutError (inp : Input) (rest : List Input) : (s.deliver inp rest).busTimeoutError = s.busTimeoutError := rfl
@[simp] theorem State.deliver_busUartError (inp : Input) (rest : List Input) : (s.deliver inp rest).busUartError = s.busUartError := rfl
@[simp] theorem State.deliver_busState (inp : Input) (rest : List Input) : (s.deliver inp rest).busState = s.busState := rfl
@[simp] theorem State.deliver_tmrKind (inp : Input) (rest : List Input) : (s.deliver inp rest).tmrKind = s.tmrKind := rfl
@[simp] theorem State.deliver_tmrDeadline (inp : Input) (rest : List Input) : (s.deliver inp rest).tmrDeadline = s.tmrDeadline := rfl
@[simp] theorem State.deliver_initialized (inp : Input) (rest : List Input) : (s.deliver inp rest).initialized = s.initialized := rfl
@[simp] theorem State.deliver_halted (inp : Input) (rest : List Input) : (s.deliver inp rest).halted = s.halted := rfl
@[simp] theorem State.deliver_now (inp : Input) (rest : List Input) : (s.deliver inp rest).now = s.now := rfl
@[simp] theorem State.deliver_refusalMark (inp : Input) (rest : List Input) : (s.deliver inp rest).refusalMark = s.refusalMark := rfl
@[simp] theorem State.deliver_input (inp : Input) (rest : List Input) : (s.deliver inp rest).input = inp := rfl
@[simp] theorem State.deliver_pending (inp : Input) (rest : List Input) : (s.deliver inp rest).pending = rest := rfl
@[simp] theorem State.deliver_out (inp : Input) (rest : List Input) : (s.deliver inp rest).out = s.out := rfl
@[simp] theorem State.deliver_outcome (inp : Input) (rest : List Input) : (s.deliver inp rest).outcome = s.outcome := rfl

@[simp] theorem State.waitIdle_par : (s.waitIdle).par = s.par := rfl
@[simp] theorem State.waitIdle_rxActive : (s.waitIdle).rxActive = s.rxActive := rfl
@[simp] theorem State.waitIdle_txActive : (s.waitIdle).txActive = s.txActive := rfl
@[simp] theorem State.waitIdle_txQueued : (s.waitIdle).txQueued = s.txQueued := rfl
@[simp] theorem State.waitIdle_txPending : (s.waitIdle).txPending = s.txPending := rfl
@[simp] theorem State.waitIdle_txFrame : (s.waitIdle).txFrame = s.txFrame := rfl
@[simp] theorem State.waitIdle_rxSlot0 : (s.waitIdle).rxSlot0 = s.rxSlot0 := rfl
@[simp] theorem State.waitIdle_rxSlot1 : (s.waitIdle).rxSlot1 = s.rxSlot1 := rfl
@[simp] theorem State.waitIdle_activeSlot : (s.waitIdle).activeSlot = s.activeSlot := rfl
@[simp] theorem State.waitIdle_rxCount : (s.waitIdle).rxCount = s.rxCount := rfl
@[simp] theorem State.waitIdle_annDeadline : (s.waitIdle).annDeadline = s.annDeadline := rfl
@[simp] theorem State.waitIdle_annCnt : (s.waitIdle).annCnt = s.annCnt := rfl
@[simp] theorem State.waitIdle_packetsReceived : (s.waitIdle).packetsReceived = s.packetsReceived := rfl
@[simp] theorem State.waitIdle_packetsDropped : (s.waitIdle).packetsDropped = s.packetsDropped := rfl
@[simp] theorem State.waitIdle_busLoError : (s.waitIdle).busLoError = s.busLoError := rfl
@[simp] theorem State.waitIdle_busTimeoutError : (s.waitIdle).busTimeoutError = s.busTimeoutError := rfl
@[simp] theorem State.waitIdle_busUartError : (s.waitIdle).busUartError = s.busUartError := rfl
@[simp] theorem State.waitIdle_busState : (s.waitIdle).busState = s.busState := rfl
@[simp] theorem State.waitIdle_tmrKind : (s.waitIdle).tmrKind = s.tmrKind := rfl
@[simp] theorem State.waitIdle_tmrDeadline : (s.waitIdle).tmrDeadline = s.tmrDeadline := rfl
@[simp] theorem State.waitIdle_initialized : (s.waitIdle).initialized = s.initialized := rfl
@[simp] theorem State.waitIdle_halted : (s.waitIdle).halted = s.halted := rfl
@[simp] theorem State.waitIdle_now : (s.waitIdle).now = s.now := rfl
@[simp] theorem State.waitIdle_refusalMark : (s.waitIdle).refusalMark = s.refusalMark := rfl
@[simp] theorem State.waitIdle_input : (s.waitIdle).input = s.input := rfl
@[simp] theorem State.waitIdle_pending : (s.waitIdle).pending = s.pending := rfl
@[simp] theorem State.waitIdle_out : (s.waitIdle).out = [] := rfl
@[simp] theorem State.waitIdle_outcome : (s.waitIdle).outcome = .idle := rfl

@[simp] theorem State.setSlot_par (ix : SlotIx) (m : Memory) : (s.setSlot ix m).par = s.par := by cases ix <;> rfl
@[simp] theorem State.setSlot_rxActive (ix : SlotIx) (m : Memory) : (s.setSlot ix m).rxActive = s.rxActive := by cases ix <;> rfl
@[simp] theorem State.setSlot_txActive (ix : SlotIx) (m : Memory) : (s.setSlot ix m).txActive = s.txActive := by cases ix <;> rfl
@[simp] theorem State.setSlot_txQueued (ix : SlotIx) (m : Memory) : (s.setSlot ix m).txQueued = s.txQueued := by cases ix <;> rfl
@[simp] theorem State.setSlot_txPending (ix : SlotIx) (m : Memory) : (s.setSlot ix m).txPending = s.txPending := by cases ix <;> rfl
@[simp] theorem State.setSlot_txFrame (ix : SlotIx) (m : Memory) : (s.setSlot ix m).txFrame = s.txFrame := by cases ix <;> rfl
@[simp] theorem State.setSlot_activeSlot (ix : SlotIx) (m : Memory) : (s.setSlot ix m).activeSlot = s.activeSlot := by cases ix <;> rfl
@[simp] theorem State.setSlot_rxCount (ix : SlotIx) (m : Memory) : (s.setSlot ix m).rxCount = s.rxCount := by cases ix <;> rfl
@[simp] theorem State.setSlot_annDeadline (ix : SlotIx) (m : Memory) : (s.setSlot ix m).annDeadline = s.annDeadline := by cases ix <;> rfl
@[simp] theorem State.setSlot_annCnt (ix : SlotIx) (m : Memory) : (s.setSlot ix m).annCnt = s.annCnt := by cases ix <;> rfl
@[simp] theorem State.setSlot_packetsReceived (ix : SlotIx) (m : Memory) : (s.setSlot ix m).packetsReceived = s.packetsReceived := by cases ix <;> rfl
@[simp] theorem State.setSlot_packetsDropped (ix : SlotIx) (m : Memory) : (s.setSlot ix m).packetsDropped = s.packetsDropped := by cases ix <;> rfl
@[simp] theorem State.setSlot_busLoError (ix : SlotIx) (m : Memory) : (s.setSlot ix m).busLoError = s.busLoError := by cases ix <;> rfl
@[simp] theorem State.setSlot_busTimeoutError (ix : SlotIx) (m : Memory) : (s.setSlot ix m).busTimeoutError = s.busTimeoutError := by cases ix <;> rfl
@[simp] theorem State.setSlot_busUartError (ix : SlotIx) (m : Memory) : (s.setSlot ix m).busUartError = s.busUartError := by cases ix <;> rfl
@[simp] theorem State.setSlot_busState (ix : SlotIx) (m : Memory) : (s.setSlot ix m).busState = s.busState := by cases ix <;> rfl
@[simp] theorem State.setSlot_tmrKind (ix : SlotIx) (m : Memory) : (s.setSlot ix m).tmrKind = s.tmrKind := by cases ix <;> rfl
@[simp] theorem State.setSlot_tmrDeadline (ix : SlotIx) (m : Memory) : (s.setSlot ix m).tmrDeadline = s.tmrDeadline := by cases ix <;> rfl
@[simp] theorem State.setSlot_initialized (ix : SlotIx) (m : Memory) : (s.setSlot ix m).initialized = s.initialized := by cases ix <;> rfl
@[simp] theorem State.setSlot_halted (ix : SlotIx) (m : Memory) : (s.setSlot ix m).halted = s.halted := by cases ix <;> rfl
@[simp] theorem State.setSlot_now (ix : SlotIx) (m : Memory) : (s.setSlot ix m).now = s.now := by cases ix <;> rfl
@[simp] theorem State.setSlot_refusalMark (ix : SlotIx) (m : Memory) : (s.setSlot ix m).refusalMark = s.refusalMark := by cases ix <;> rfl
@[simp] theorem State.setSlot_input (ix : SlotIx) (m : Memory) : (s.setSlot ix m).input = s.input := by cases ix <;> rfl
@[simp] theorem State.setSlot_pending (ix : SlotIx) (m : Memory) : (s.setSlot ix m).pending = s.pending := by cases ix <;> rfl
@[simp] theorem State.setSlot_out (ix : SlotIx) (m : Memory) : (s.setSlot ix m).out = s.out := by cases ix <;> rfl
@[simp] theorem State.setSlot_outcome (ix : SlotIx) (m : Memory) : (s.setSlot ix m).outcome = s.outcome := by cases ix <;> rfl

@[simp] theorem zeroSlot_par (ix : SlotIx) : (zeroSlot s ix).par = s.par := by cases ix <;> rfl
@[simp] theorem zeroSlot_rxActive (ix : SlotIx) : (zeroSlot s ix).rxActive = s.rxActive := by cases ix <;> rfl
@[simp] theorem zeroSlot_txActive (ix : SlotIx) : (zeroSlot s ix).txActive = s.txActive := by cases ix <;> rfl
@[simp] theorem zeroSlot_txQueued (ix : SlotIx) : (zeroSlot s ix).txQueued = s.txQueued := by cases ix <;> rfl
@[simp] theorem zeroSlot_txPending (ix : SlotIx) : (zeroSlot s ix).txPending = s.txPending := by cases ix <;> rfl
@[simp] theorem zeroSlot_txFrame (ix : SlotIx) : (zeroSlot s ix).txFrame = s.txFrame := by cases ix <;> rfl
@[simp] theorem zeroSlot_activeSlot (ix : SlotIx) : (zeroSlot s ix).activeSlot = s.activeSlot := by cases ix <;> rfl
@[simp] theorem zeroSlot_rxCount (ix : SlotIx) : (zeroSlot s ix).rxCount = s.rxCount := by cases ix <;> rfl
@[simp] theorem zeroSlot_annDeadline (ix : SlotIx) : (zeroSlot s ix).annDeadline = s.annDeadline := by cases ix <;> rfl
@[simp] theorem zeroSlot_annCnt (ix : SlotIx) : (zeroSlot s ix).annCnt = s.annCnt := by cases ix <;> rfl
@[simp] theorem zeroSlot_packetsReceived (ix : SlotIx) : (zeroSlot s ix).packetsReceived = s.packetsReceived := by cases ix <;> rfl
@[simp] theorem zeroSlot_packetsDropped (ix : SlotIx) : (zeroSlot s ix).packetsDropped = s.packetsDropped := by cases ix <;> rfl
@[simp] theorem zeroSlot_busLoError (ix : SlotIx) : (zeroSlot s ix).busLoError = s.busLoError := by cases ix <;> rfl
@[simp] theorem zeroSlot_busTimeoutError (ix : SlotIx) : (zeroSlot s ix).busTimeoutError = s.busTimeoutError := by cases ix <;> rfl
@[simp] theorem zeroSlot_busUartError (ix : SlotIx) : (zeroSlot s ix).busUartError = s.busUartError := by cases ix <;> rfl
@[simp] theorem zeroSlot_busState (ix : SlotIx) : (zeroSlot s ix).busState = s.busState := by cases ix <;> rfl
@[simp] theorem zeroSlot_tmrKind (ix : SlotIx) : (zeroSlot s ix).tmrKind = s.tmrKind := by cases ix <;> rfl
@[simp] theorem zeroSlot_tmrDeadline (ix : SlotIx) : (zeroSlot s ix).tmrDeadline = s.tmrDeadline := by cases ix <;> rfl
@[simp] theorem zeroSlot_initialized (ix : SlotIx) : (zeroSlot s ix).initialized = s.initialized := by cases ix <;> rfl
@[simp] theorem zeroSlot_halted (ix : SlotIx) : (zeroSlot s ix).halted = s.halted := by cases ix <;> rfl
@[simp] theorem zeroSlot_now (ix : SlotIx) : (zeroSlot s ix).now = s.now := by cases ix <;> rfl
@[simp] theorem zeroSlot_refusalMark (ix : SlotIx) : (zeroSlot s ix).refusalMark = s.refusalMark := by cases ix <;> rfl
@[simp] theorem zeroSlot_input (ix : SlotIx) : (zeroSlot s ix).input = s.input := by cases ix <;> rfl
@[simp] theorem zeroSlot_pending (ix : SlotIx) : (zeroSlot s ix).pending = s.pending := by cases ix <;> rfl
@[simp] theorem zeroSlot_out (ix : SlotIx) : (zeroSlot s ix).out = s.out := by cases ix <;> rfl
@[simp] theorem zeroSlot_outcome (ix : SlotIx) : (zeroSlot s ix).outcome = s.outcome := by cases ix <;> rfl

@[simp] theorem State.setSlot_slot_same (ix : SlotIx) (m : Memory) : (s.setSlot ix m).slot ix = m := by
  cases ix <;> rfl

theorem State.setSlot_slot_other (ix jx : SlotIx) (m : Memory) (h : jx ≠ ix) :
    (s.setSlot ix m).slot jx = s.slot jx := by
  cases ix <;> cases jx <;> first | rfl | exact absurd rfl h

end Sys2Proof.Machine
end

