-- ==== Sys2Proof/Laws/Ops.lean ====
section
/-! SUPPORT. What the named operations and the frame codec can do: each lemma says it once, so that a proof cites
it instead of unfolding the operation. -/

namespace Sys2Proof.Machine

variable (s : State)

@[simp] theorem SlotIx.other_other (ix : SlotIx) : ix.other.other = ix := by cases ix <;> rfl

theorem SlotIx.other_ne (ix : SlotIx) : ix.other ≠ ix := by cases ix <;> decide

/-- A draw lies in its range (00_scope.md R15). -/
theorem drawAround_range (n j : Nat) (h : j ≤ n) :
    n - j ≤ drawAround s n j ∧ drawAround s n j ≤ n + j := by
  have := Nat.mod_lt s.input.around (show 0 < 2 * j + 1 by omega)
  unfold drawAround
  omega

theorem drawJitter_le (m : Nat) : drawJitter s m ≤ m :=
  Nat.le_of_lt_succ (Nat.mod_lt s.input.jitter (Nat.succ_pos m))

/-- Every value of the range of `draw_around` is drawn for some input (00_scope.md R15). -/
theorem drawAround_surjective (n j d : Nat) (h : j ≤ n) (lo : n - j ≤ d) (hi : d ≤ n + j) :
    drawAround { s with input := { s.input with around := d - (n - j) } } n j = d := by
  unfold drawAround
  rw [Nat.mod_eq_of_lt (show d - (n - j) < 2 * j + 1 by omega)]
  omega

theorem memReadByte_ok (ix : SlotIx) (i : Nat) (h : i < s.par.rxSlotBytes) :
    memReadByte s ix i = .ok (s.slotByte ix i) := if_pos h

theorem memRead_ok (ix : SlotIx) (i n : Nat) (h : i + n ≤ s.par.rxSlotBytes) :
    memRead s ix i n = .ok ((List.range n).map fun k => s.slotByte ix (i + k)) := if_pos h

/-- A write in the slot answers a state that differs in that slot's memory only. -/
theorem memWrite_ok (ix : SlotIx) (i : Nat) (b : Byte) (h : i < s.par.rxSlotBytes) :
    memWrite s ix i b = .ok (s.setSlot ix (writeCell (s.slot ix) i b)) := if_pos h

theorem memWrite_error (ix : SlotIx) (i : Nat) (b : Byte) (h : ¬i < s.par.rxSlotBytes) :
    memWrite s ix i b = .error .slotOffset := if_neg h

theorem le16_ok (ix : SlotIx) (i : Nat) (h : i + 1 < s.par.rxSlotBytes) :
    le16 s ix i = .ok ((s.slotByte ix i).toNat + 256 * (s.slotByte ix (i + 1)).toNat) := by
  simp [le16, memReadByte_ok, h, show i < s.par.rxSlotBytes by omega]

/-- After a write of one byte, that offset of that slot reads it and every other byte of both slots reads as
before (20_memory.md R77). -/
theorem slotByte_setSlot_writeCell (ix jx : SlotIx) (i j : Nat) (b : Byte) (h : Memory.wf (s.slot ix)) :
    (s.setSlot ix (writeCell (s.slot ix) i b)).slotByte jx j =
      if jx = ix ∧ j = i then b else s.slotByte jx j := by
  unfold State.slotByte
  by_cases hx : jx = ix
  · subst hx
    simp [readCell_writeCell _ _ _ _ h]
  · simp [State.setSlot_slot_other s ix jx _ hx, hx]

/-- After a slot is zeroed, each of its bytes reads 0 and the other slot reads as before (41_rx.md R140). -/
theorem slotByte_zeroSlot (ix jx : SlotIx) (j : Nat) :
    (zeroSlot s ix).slotByte jx j =
      if jx = ix ∧ j < s.par.rxSlotBytes then resetByte else s.slotByte jx j := by
  unfold State.slotByte zeroSlot
  by_cases hx : jx = ix
  · subst hx
    simp [readCell_clearBelow]
  · simp [State.setSlot_slot_other s ix jx _ hx, hx]

/-- `FrameSize` reads one byte, which valid parameters keep inside the slot (40_frame_codec.md R120;
00_scope.md R9). -/
theorem frameSize_ok (ix : SlotIx) (h : s.par.sizeOffset < s.par.rxSlotBytes) :
    frameSize s ix = .ok ((s.slotByte ix s.par.sizeOffset).toNat + s.par.frameSizeBias) := by
  simp [frameSize, memReadByte_ok, h]

/-- The codec reads the slot and the parameters alone. -/
theorem frameSize_congr (s t : State) (ix : SlotIx) (hp : t.par = s.par) (hm : t.slot ix = s.slot ix) :
    frameSize t ix = frameSize s ix := by
  simp [frameSize, memReadByte, State.slotByte, hp, hm]

theorem validate_congr (s t : State) (ix : SlotIx) (n : Nat) (hp : t.par = s.par)
    (hm : t.slot ix = s.slot ix) : validate t ix n = validate s ix n := by
  simp [validate, frameSize_congr s t ix hp hm, memRead, le16, memReadByte, State.slotByte, hp, hm]

/-- What the constraints of 00_scope.md R9 say. -/
theorem Params.valid_iff (p : Params) :
    p.valid = true ↔
      4 ≤ p.frameSizeBias ∧ p.sizeOffset + 1 ≤ p.rxSlotBytes ∧
      p.arbJitterUs + p.wrOverheadUs ≤ p.arbNominalUs ∧
      (1 ≤ p.tickUs ∧ 1 ≤ p.hdrGuardUs ∧ 1 ≤ p.annIntervalUs) ∧
      1 ≤ p.annCntMod ∧ (1 ≤ p.cntW ∧ p.cntW ≤ 32) := by
  simp [Params.valid, and_assoc]

/-- A counter fits its width after it is bumped. -/
theorem bumpCounter_lt (w : Nat) (c : RegWord) : (bumpCounter w c).toNat < 2 ^ w := by
  have h : (c.toNat + 1) % 2 ^ w < 2 ^ w := Nat.mod_lt _ (by positivity)
  unfold bumpCounter
  rw [BitVec.toNat_ofNat]
  exact lt_of_le_of_lt (Nat.mod_le _ _) h

/-- A counter goes up by 1 modulo `2 ^ w` (10_state.md R42). -/
theorem bumpCounter_toNat (w : Nat) (c : RegWord) (h : w ≤ 32) :
    (bumpCounter w c).toNat = (c.toNat + 1) % 2 ^ w := by
  unfold bumpCounter
  rw [BitVec.toNat_ofNat]
  exact Nat.mod_eq_of_lt
    (lt_of_lt_of_le (Nat.mod_lt _ (by positivity)) (Nat.pow_le_pow_right (by norm_num) h))

/-- The five things the prologue can do with an event (44_control.md R240). -/
theorem runEvent_cases (wh bi : Bool) (body : State → Result) :
    (s.input.now < s.now ∧ runEvent wh bi body s = .next (s.markRefused .timeRegression)) ∨
    (s.now ≤ s.input.now ∧ s.halted = true ∧ wh = true ∧ runEvent wh bi body s = body s.begin) ∨
    (s.now ≤ s.input.now ∧ s.halted = true ∧ wh = false ∧
      runEvent wh bi body s = .next s.begin.ignored) ∨
    (s.now ≤ s.input.now ∧ s.halted = false ∧ (s.initialized = true ∨ bi = true) ∧
      runEvent wh bi body s = body s.begin.latchNow) ∨
    (s.now ≤ s.input.now ∧ s.halted = false ∧ s.initialized = false ∧ bi = false ∧
      runEvent wh bi body s = .next s.begin.latchNow.ignored) := by
  unfold runEvent
  by_cases h : s.input.now < s.now
  · exact .inl ⟨h, if_pos h⟩
  · have h' := Nat.le_of_not_lt h
    rw [if_neg h]
    cases hh : s.halted <;> cases hi : s.initialized <;> cases wh <;> cases bi <;> simp [h']

/-- An event whose filters pass runs its rule. -/
theorem runEvent_live (wh bi : Bool) (body : State → Result) (hi : s.initialized = true ∨ bi = true)
    (hh : s.halted = false) (hn : s.now ≤ s.input.now) :
    runEvent wh bi body s = body s.begin.latchNow := by
  unfold runEvent
  rw [if_neg (Nat.not_lt.mpr hn)]
  rcases hi with hi | hi <;> simp [hh, hi]

end Sys2Proof.Machine
end

