-- ==== Sys2Proof/Laws/Sched.lean ====
section
/-! SUPPORT. What the tick scheduler and the announce scheduler can do (42_tx.md R180; 43_announce.md R220 to
R222): one lemma for each says it whole, and the frame lemmas say what is kept. -/

namespace Sys2Proof.Machine

variable (s : State)

/-- `TickSched` leaves everything while receiving, else arms PULSE or HEARTBEAT (42_tx.md R180). -/
theorem tickSched_cases :
    (s.rxActive = true ∧ tickSched s = s) ∨
    (s.rxActive = false ∧ s.txPending = true ∧ s.txActive = false ∧
      tickSched s = { s with
        txQueued := true
        tmrKind := .pulse
        tmrDeadline := s.now + drawAround s s.par.arbNominalUs s.par.arbJitterUs - s.par.wrOverheadUs }) ∨
    (s.rxActive = false ∧ (s.txPending = false ∨ s.txActive = true) ∧
      tickSched s = { s with
        txQueued := false
        tmrKind := .heartbeat
        tmrDeadline := s.now + s.par.tickUs }) := by
  unfold tickSched
  cases hr : s.rxActive <;> cases hp : s.txPending <;> cases ha : s.txActive <;> simp [State.armTimer]

@[simp] theorem tickSched_par : (tickSched s).par = s.par := by
  rcases tickSched_cases s with ⟨_, h⟩ | ⟨_, _, _, h⟩ | ⟨_, _, h⟩ <;> rw [h]
@[simp] theorem tickSched_rxActive : (tickSched s).rxActive = s.rxActive := by
  rcases tickSched_cases s with ⟨_, h⟩ | ⟨_, _, _, h⟩ | ⟨_, _, h⟩ <;> rw [h]
@[simp] theorem tickSched_txActive : (tickSched s).txActive = s.txActive := by
  rcases tickSched_cases s with ⟨_, h⟩ | ⟨_, _, _, h⟩ | ⟨_, _, h⟩ <;> rw [h]
@[simp] theorem tickSched_txPending : (tickSched s).txPending = s.txPending := by
  rcases tickSched_cases s with ⟨_, h⟩ | ⟨_, _, _, h⟩ | ⟨_, _, h⟩ <;> rw [h]
@[simp] theorem tickSched_txFrame : (tickSched s).txFrame = s.txFrame := by
  rcases tickSched_cases s with ⟨_, h⟩ | ⟨_, _, _, h⟩ | ⟨_, _, h⟩ <;> rw [h]
@[simp] theorem tickSched_rxSlot0 : (tickSched s).rxSlot0 = s.rxSlot0 := by
  rcases tickSched_cases s with ⟨_, h⟩ | ⟨_, _, _, h⟩ | ⟨_, _, h⟩ <;> rw [h]
@[simp] theorem tickSched_rxSlot1 : (tickSched s).rxSlot1 = s.rxSlot1 := by
  rcases tickSched_cases s with ⟨_, h⟩ | ⟨_, _, _, h⟩ | ⟨_, _, h⟩ <;> rw [h]
@[simp] theorem tickSched_activeSlot : (tickSched s).activeSlot = s.activeSlot := by
  rcases tickSched_cases s with ⟨_, h⟩ | ⟨_, _, _, h⟩ | ⟨_, _, h⟩ <;> rw [h]
@[simp] theorem tickSched_rxCount : (tickSched s).rxCount = s.rxCount := by
  rcases tickSched_cases s with ⟨_, h⟩ | ⟨_, _, _, h⟩ | ⟨_, _, h⟩ <;> rw [h]
@[simp] theorem tickSched_annDeadline : (tickSched s).annDeadline = s.annDeadline := by
  rcases tickSched_cases s with ⟨_, h⟩ | ⟨_, _, _, h⟩ | ⟨_, _, h⟩ <;> rw [h]
@[simp] theorem tickSched_annCnt : (tickSched s).annCnt = s.annCnt := by
  rcases tickSched_cases s with ⟨_, h⟩ | ⟨_, _, _, h⟩ | ⟨_, _, h⟩ <;> rw [h]
@[simp] theorem tickSched_packetsReceived : (tickSched s).packetsReceived = s.packetsReceived := by
  rcases tickSched_cases s with ⟨_, h⟩ | ⟨_, _, _, h⟩ | ⟨_, _, h⟩ <;> rw [h]
@[simp] theorem tickSched_packetsDropped : (tickSched s).packetsDropped = s.packetsDropped := by
  rcases tickSched_cases s with ⟨_, h⟩ | ⟨_, _, _, h⟩ | ⟨_, _, h⟩ <;> rw [h]
@[simp] theorem tickSched_busLoError : (tickSched s).busLoError = s.busLoError := by
  rcases tickSched_cases s with ⟨_, h⟩ | ⟨_, _, _, h⟩ | ⟨_, _, h⟩ <;> rw [h]
@[simp] theorem tickSched_busTimeoutError : (tickSched s).busTimeoutError = s.busTimeoutError := by
  rcases tickSched_cases s with ⟨_, h⟩ | ⟨_, _, _, h⟩ | ⟨_, _, h⟩ <;> rw [h]
@[simp] theorem tickSched_busUartError : (tickSched s).busUartError = s.busUartError := by
  rcases tickSched_cases s with ⟨_, h⟩ | ⟨_, _, _, h⟩ | ⟨_, _, h⟩ <;> rw [h]
@[simp] theorem tickSched_busState : (tickSched s).busState = s.busState := by
  rcases tickSched_cases s with ⟨_, h⟩ | ⟨_, _, _, h⟩ | ⟨_, _, h⟩ <;> rw [h]
@[simp] theorem tickSched_initialized : (tickSched s).initialized = s.initialized := by
  rcases tickSched_cases s with ⟨_, h⟩ | ⟨_, _, _, h⟩ | ⟨_, _, h⟩ <;> rw [h]
@[simp] theorem tickSched_halted : (tickSched s).halted = s.halted := by
  rcases tickSched_cases s with ⟨_, h⟩ | ⟨_, _, _, h⟩ | ⟨_, _, h⟩ <;> rw [h]
@[simp] theorem tickSched_now : (tickSched s).now = s.now := by
  rcases tickSched_cases s with ⟨_, h⟩ | ⟨_, _, _, h⟩ | ⟨_, _, h⟩ <;> rw [h]
@[simp] theorem tickSched_refusalMark : (tickSched s).refusalMark = s.refusalMark := by
  rcases tickSched_cases s with ⟨_, h⟩ | ⟨_, _, _, h⟩ | ⟨_, _, h⟩ <;> rw [h]
@[simp] theorem tickSched_input : (tickSched s).input = s.input := by
  rcases tickSched_cases s with ⟨_, h⟩ | ⟨_, _, _, h⟩ | ⟨_, _, h⟩ <;> rw [h]
@[simp] theorem tickSched_pending : (tickSched s).pending = s.pending := by
  rcases tickSched_cases s with ⟨_, h⟩ | ⟨_, _, _, h⟩ | ⟨_, _, h⟩ <;> rw [h]
@[simp] theorem tickSched_out : (tickSched s).out = s.out := by
  rcases tickSched_cases s with ⟨_, h⟩ | ⟨_, _, _, h⟩ | ⟨_, _, h⟩ <;> rw [h]
@[simp] theorem tickSched_outcome : (tickSched s).outcome = s.outcome := by
  rcases tickSched_cases s with ⟨_, h⟩ | ⟨_, _, _, h⟩ | ⟨_, _, h⟩ <;> rw [h]

/-- `CheckAnnounce` arms the deadline, or announces and rearms it, or does nothing (43_announce.md R220). -/
theorem checkAnnounce_cases :
    (s.annDeadline = 0 ∧ checkAnnounce s = { s with
        annDeadline := s.now + s.par.annIntervalUs + drawJitter s s.par.annJitterMaxUs }) ∨
    (s.annDeadline ≠ 0 ∧ s.annDeadline < s.now ∧ checkAnnounce s = { s with
        out := s.out ++ [.appAnnounceReq]
        annDeadline := s.now + s.par.annIntervalUs + drawJitter s s.par.annJitterMaxUs }) ∨
    (s.annDeadline ≠ 0 ∧ s.now ≤ s.annDeadline ∧ checkAnnounce s = s) := by
  unfold checkAnnounce
  by_cases h0 : s.annDeadline = 0
  · exact .inl ⟨h0, by simp [h0, armAnnounce]⟩
  · by_cases h1 : s.annDeadline < s.now
    · exact .inr (.inl ⟨h0, h1, by simp [h0, h1, armAnnounce, State.emit, drawJitter]⟩)
    · exact .inr (.inr ⟨h0, Nat.le_of_not_lt h1, by simp [h0, h1]⟩)

@[simp] theorem checkAnnounce_par : (checkAnnounce s).par = s.par := by
  rcases checkAnnounce_cases s with ⟨_, h⟩ | ⟨_, _, h⟩ | ⟨_, _, h⟩ <;> rw [h]
@[simp] theorem checkAnnounce_rxActive : (checkAnnounce s).rxActive = s.rxActive := by
  rcases checkAnnounce_cases s with ⟨_, h⟩ | ⟨_, _, h⟩ | ⟨_, _, h⟩ <;> rw [h]
@[simp] theorem checkAnnounce_txActive : (checkAnnounce s).txActive = s.txActive := by
  rcases checkAnnounce_cases s with ⟨_, h⟩ | ⟨_, _, h⟩ | ⟨_, _, h⟩ <;> rw [h]
@[simp] theorem checkAnnounce_txQueued : (checkAnnounce s).txQueued = s.txQueued := by
  rcases checkAnnounce_cases s with ⟨_, h⟩ | ⟨_, _, h⟩ | ⟨_, _, h⟩ <;> rw [h]
@[simp] theorem checkAnnounce_txPending : (checkAnnounce s).txPending = s.txPending := by
  rcases checkAnnounce_cases s with ⟨_, h⟩ | ⟨_, _, h⟩ | ⟨_, _, h⟩ <;> rw [h]
@[simp] theorem checkAnnounce_txFrame : (checkAnnounce s).txFrame = s.txFrame := by
  rcases checkAnnounce_cases s with ⟨_, h⟩ | ⟨_, _, h⟩ | ⟨_, _, h⟩ <;> rw [h]
@[simp] theorem checkAnnounce_rxSlot0 : (checkAnnounce s).rxSlot0 = s.rxSlot0 := by
  rcases checkAnnounce_cases s with ⟨_, h⟩ | ⟨_, _, h⟩ | ⟨_, _, h⟩ <;> rw [h]
@[simp] theorem checkAnnounce_rxSlot1 : (checkAnnounce s).rxSlot1 = s.rxSlot1 := by
  rcases checkAnnounce_cases s with ⟨_, h⟩ | ⟨_, _, h⟩ | ⟨_, _, h⟩ <;> rw [h]
@[simp] theorem checkAnnounce_activeSlot : (checkAnnounce s).activeSlot = s.activeSlot := by
  rcases checkAnnounce_cases s with ⟨_, h⟩ | ⟨_, _, h⟩ | ⟨_, _, h⟩ <;> rw [h]
@[simp] theorem checkAnnounce_rxCount : (checkAnnounce s).rxCount = s.rxCount := by
  rcases checkAnnounce_cases s with ⟨_, h⟩ | ⟨_, _, h⟩ | ⟨_, _, h⟩ <;> rw [h]
@[simp] theorem checkAnnounce_annCnt : (checkAnnounce s).annCnt = s.annCnt := by
  rcases checkAnnounce_cases s with ⟨_, h⟩ | ⟨_, _, h⟩ | ⟨_, _, h⟩ <;> rw [h]
@[simp] theorem checkAnnounce_packetsReceived : (checkAnnounce s).packetsReceived = s.packetsReceived := by
  rcases checkAnnounce_cases s with ⟨_, h⟩ | ⟨_, _, h⟩ | ⟨_, _, h⟩ <;> rw [h]
@[simp] theorem checkAnnounce_packetsDropped : (checkAnnounce s).packetsDropped = s.packetsDropped := by
  rcases checkAnnounce_cases s with ⟨_, h⟩ | ⟨_, _, h⟩ | ⟨_, _, h⟩ <;> rw [h]
@[simp] theorem checkAnnounce_busLoError : (checkAnnounce s).busLoError = s.busLoError := by
  rcases checkAnnounce_cases s with ⟨_, h⟩ | ⟨_, _, h⟩ | ⟨_, _, h⟩ <;> rw [h]
@[simp] theorem checkAnnounce_busTimeoutError : (checkAnnounce s).busTimeoutError = s.busTimeoutError := by
  rcases checkAnnounce_cases s with ⟨_, h⟩ | ⟨_, _, h⟩ | ⟨_, _, h⟩ <;> rw [h]
@[simp] theorem checkAnnounce_busUartError : (checkAnnounce s).busUartError = s.busUartError := by
  rcases checkAnnounce_cases s with ⟨_, h⟩ | ⟨_, _, h⟩ | ⟨_, _, h⟩ <;> rw [h]
@[simp] theorem checkAnnounce_busState : (checkAnnounce s).busState = s.busState := by
  rcases checkAnnounce_cases s with ⟨_, h⟩ | ⟨_, _, h⟩ | ⟨_, _, h⟩ <;> rw [h]
@[simp] theorem checkAnnounce_tmrKind : (checkAnnounce s).tmrKind = s.tmrKind := by
  rcases checkAnnounce_cases s with ⟨_, h⟩ | ⟨_, _, h⟩ | ⟨_, _, h⟩ <;> rw [h]
@[simp] theorem checkAnnounce_tmrDeadline : (checkAnnounce s).tmrDeadline = s.tmrDeadline := by
  rcases checkAnnounce_cases s with ⟨_, h⟩ | ⟨_, _, h⟩ | ⟨_, _, h⟩ <;> rw [h]
@[simp] theorem checkAnnounce_initialized : (checkAnnounce s).initialized = s.initialized := by
  rcases checkAnnounce_cases s with ⟨_, h⟩ | ⟨_, _, h⟩ | ⟨_, _, h⟩ <;> rw [h]
@[simp] theorem checkAnnounce_halted : (checkAnnounce s).halted = s.halted := by
  rcases checkAnnounce_cases s with ⟨_, h⟩ | ⟨_, _, h⟩ | ⟨_, _, h⟩ <;> rw [h]
@[simp] theorem checkAnnounce_now : (checkAnnounce s).now = s.now := by
  rcases checkAnnounce_cases s with ⟨_, h⟩ | ⟨_, _, h⟩ | ⟨_, _, h⟩ <;> rw [h]
@[simp] theorem checkAnnounce_refusalMark : (checkAnnounce s).refusalMark = s.refusalMark := by
  rcases checkAnnounce_cases s with ⟨_, h⟩ | ⟨_, _, h⟩ | ⟨_, _, h⟩ <;> rw [h]
@[simp] theorem checkAnnounce_input : (checkAnnounce s).input = s.input := by
  rcases checkAnnounce_cases s with ⟨_, h⟩ | ⟨_, _, h⟩ | ⟨_, _, h⟩ <;> rw [h]
@[simp] theorem checkAnnounce_pending : (checkAnnounce s).pending = s.pending := by
  rcases checkAnnounce_cases s with ⟨_, h⟩ | ⟨_, _, h⟩ | ⟨_, _, h⟩ <;> rw [h]
@[simp] theorem checkAnnounce_outcome : (checkAnnounce s).outcome = s.outcome := by
  rcases checkAnnounce_cases s with ⟨_, h⟩ | ⟨_, _, h⟩ | ⟨_, _, h⟩ <;> rw [h]

/-- `AnnounceThrottle` counts, and checks when the count was 0 (43_announce.md R221). -/
theorem announceThrottle_eq :
    announceThrottle s =
      if s.annCnt = 0 then checkAnnounce { s with annCnt := (s.annCnt + 1) % s.par.annCntMod }
      else { s with annCnt := (s.annCnt + 1) % s.par.annCntMod } := rfl

@[simp] theorem announceThrottle_par : (announceThrottle s).par = s.par := by
  rw [announceThrottle_eq]; split <;> simp
@[simp] theorem announceThrottle_rxActive : (announceThrottle s).rxActive = s.rxActive := by
  rw [announceThrottle_eq]; split <;> simp
@[simp] theorem announceThrottle_txActive : (announceThrottle s).txActive = s.txActive := by
  rw [announceThrottle_eq]; split <;> simp
@[simp] theorem announceThrottle_txQueued : (announceThrottle s).txQueued = s.txQueued := by
  rw [announceThrottle_eq]; split <;> simp
@[simp] theorem announceThrottle_txPending : (announceThrottle s).txPending = s.txPending := by
  rw [announceThrottle_eq]; split <;> simp
@[simp] theorem announceThrottle_txFrame : (announceThrottle s).txFrame = s.txFrame := by
  rw [announceThrottle_eq]; split <;> simp
@[simp] theorem announceThrottle_rxSlot0 : (announceThrottle s).rxSlot0 = s.rxSlot0 := by
  rw [announceThrottle_eq]; split <;> simp
@[simp] theorem announceThrottle_rxSlot1 : (announceThrottle s).rxSlot1 = s.rxSlot1 := by
  rw [announceThrottle_eq]; split <;> simp
@[simp] theorem announceThrottle_activeSlot : (announceThrottle s).activeSlot = s.activeSlot := by
  rw [announceThrottle_eq]; split <;> simp
@[simp] theorem announceThrottle_rxCount : (announceThrottle s).rxCount = s.rxCount := by
  rw [announceThrottle_eq]; split <;> simp
@[simp] theorem announceThrottle_packetsReceived : (announceThrottle s).packetsReceived = s.packetsReceived := by
  rw [announceThrottle_eq]; split <;> simp
@[simp] theorem announceThrottle_packetsDropped : (announceThrottle s).packetsDropped = s.packetsDropped := by
  rw [announceThrottle_eq]; split <;> simp
@[simp] theorem announceThrottle_busLoError : (announceThrottle s).busLoError = s.busLoError := by
  rw [announceThrottle_eq]; split <;> simp
@[simp] theorem announceThrottle_busTimeoutError : (announceThrottle s).busTimeoutError = s.busTimeoutError := by
  rw [announceThrottle_eq]; split <;> simp
@[simp] theorem announceThrottle_busUartError : (announceThrottle s).busUartError = s.busUartError := by
  rw [announceThrottle_eq]; split <;> simp
@[simp] theorem announceThrottle_busState : (announceThrottle s).busState = s.busState := by
  rw [announceThrottle_eq]; split <;> simp
@[simp] theorem announceThrottle_tmrKind : (announceThrottle s).tmrKind = s.tmrKind := by
  rw [announceThrottle_eq]; split <;> simp
@[simp] theorem announceThrottle_tmrDeadline : (announceThrottle s).tmrDeadline = s.tmrDeadline := by
  rw [announceThrottle_eq]; split <;> simp
@[simp] theorem announceThrottle_initialized : (announceThrottle s).initialized = s.initialized := by
  rw [announceThrottle_eq]; split <;> simp
@[simp] theorem announceThrottle_halted : (announceThrottle s).halted = s.halted := by
  rw [announceThrottle_eq]; split <;> simp
@[simp] theorem announceThrottle_now : (announceThrottle s).now = s.now := by
  rw [announceThrottle_eq]; split <;> simp
@[simp] theorem announceThrottle_refusalMark : (announceThrottle s).refusalMark = s.refusalMark := by
  rw [announceThrottle_eq]; split <;> simp
@[simp] theorem announceThrottle_input : (announceThrottle s).input = s.input := by
  rw [announceThrottle_eq]; split <;> simp
@[simp] theorem announceThrottle_pending : (announceThrottle s).pending = s.pending := by
  rw [announceThrottle_eq]; split <;> simp
@[simp] theorem announceThrottle_outcome : (announceThrottle s).outcome = s.outcome := by
  rw [announceThrottle_eq]; split <;> simp
@[simp] theorem announceThrottle_annCnt : (announceThrottle s).annCnt = (s.annCnt + 1) % s.par.annCntMod := by
  rw [announceThrottle_eq]; split <;> simp

@[simp] theorem heartbeat_par : (heartbeat s).par = s.par := by simp [heartbeat]
@[simp] theorem heartbeat_rxActive : (heartbeat s).rxActive = s.rxActive := by simp [heartbeat]
@[simp] theorem heartbeat_txActive : (heartbeat s).txActive = s.txActive := by simp [heartbeat]
@[simp] theorem heartbeat_txPending : (heartbeat s).txPending = s.txPending := by simp [heartbeat]
@[simp] theorem heartbeat_txFrame : (heartbeat s).txFrame = s.txFrame := by simp [heartbeat]
@[simp] theorem heartbeat_rxSlot0 : (heartbeat s).rxSlot0 = s.rxSlot0 := by simp [heartbeat]
@[simp] theorem heartbeat_rxSlot1 : (heartbeat s).rxSlot1 = s.rxSlot1 := by simp [heartbeat]
@[simp] theorem heartbeat_activeSlot : (heartbeat s).activeSlot = s.activeSlot := by simp [heartbeat]
@[simp] theorem heartbeat_rxCount : (heartbeat s).rxCount = s.rxCount := by simp [heartbeat]
@[simp] theorem heartbeat_annCnt : (heartbeat s).annCnt = s.annCnt := by simp [heartbeat]
@[simp] theorem heartbeat_packetsReceived : (heartbeat s).packetsReceived = s.packetsReceived := by simp [heartbeat]
@[simp] theorem heartbeat_packetsDropped : (heartbeat s).packetsDropped = s.packetsDropped := by simp [heartbeat]
@[simp] theorem heartbeat_busLoError : (heartbeat s).busLoError = s.busLoError := by simp [heartbeat]
@[simp] theorem heartbeat_busTimeoutError : (heartbeat s).busTimeoutError = s.busTimeoutError := by simp [heartbeat]
@[simp] theorem heartbeat_busUartError : (heartbeat s).busUartError = s.busUartError := by simp [heartbeat]
@[simp] theorem heartbeat_busState : (heartbeat s).busState = s.busState := by simp [heartbeat]
@[simp] theorem heartbeat_initialized : (heartbeat s).initialized = s.initialized := by simp [heartbeat]
@[simp] theorem heartbeat_halted : (heartbeat s).halted = s.halted := by simp [heartbeat]
@[simp] theorem heartbeat_now : (heartbeat s).now = s.now := by simp [heartbeat]
@[simp] theorem heartbeat_refusalMark : (heartbeat s).refusalMark = s.refusalMark := by simp [heartbeat]
@[simp] theorem heartbeat_input : (heartbeat s).input = s.input := by simp [heartbeat]
@[simp] theorem heartbeat_pending : (heartbeat s).pending = s.pending := by simp [heartbeat]
@[simp] theorem heartbeat_outcome : (heartbeat s).outcome = s.outcome := by simp [heartbeat]

/-- The timer is armed after `TickSched` outside a reception: PULSE when a transmission is to be scheduled, else
HEARTBEAT (10_state.md R56 items 6 to 8). -/
theorem tickSched_tmrKind (h : s.rxActive = false) :
    (tickSched s).tmrKind = if s.txPending && !s.txActive then .pulse else .heartbeat := by
  unfold tickSched
  cases s.txPending <;> cases s.txActive <;> simp [h]

/-- `TX_QUEUED` after `TickSched` outside a reception. -/
theorem tickSched_txQueued (h : s.rxActive = false) :
    (tickSched s).txQueued = (s.txPending && !s.txActive) := by
  unfold tickSched
  cases s.txPending <;> cases s.txActive <;> simp [h]

end Sys2Proof.Machine
end

