-- ==== Sys2Proof/Laws/Rx.lean ====
section
/-! SUPPORT. What the receiver's shared operations can do (41_rx.md R140 to R147): the value of every field they write, and the
frame of the rest. -/

namespace Sys2Proof.Machine

variable (s : State)

/-- A slot is not changed by the tick scheduler. -/
@[simp] theorem tickSched_slot (ix : SlotIx) : (tickSched s).slot ix = s.slot ix := by
  cases ix <;> simp [State.slot]

@[simp] theorem announceThrottle_slot (ix : SlotIx) : (announceThrottle s).slot ix = s.slot ix := by
  cases ix <;> simp [State.slot]

@[simp] theorem rxTimedOut_par : (rxTimedOut s).par = s.par := by simp [rxTimedOut]
@[simp] theorem rxTimedOut_txActive : (rxTimedOut s).txActive = s.txActive := by simp [rxTimedOut]
@[simp] theorem rxTimedOut_txPending : (rxTimedOut s).txPending = s.txPending := by simp [rxTimedOut]
@[simp] theorem rxTimedOut_txFrame : (rxTimedOut s).txFrame = s.txFrame := by simp [rxTimedOut]
@[simp] theorem rxTimedOut_rxSlot0 : (rxTimedOut s).rxSlot0 = s.rxSlot0 := by simp [rxTimedOut]
@[simp] theorem rxTimedOut_rxSlot1 : (rxTimedOut s).rxSlot1 = s.rxSlot1 := by simp [rxTimedOut]
@[simp] theorem rxTimedOut_activeSlot : (rxTimedOut s).activeSlot = s.activeSlot := by simp [rxTimedOut]
@[simp] theorem rxTimedOut_annDeadline : (rxTimedOut s).annDeadline = s.annDeadline := by simp [rxTimedOut]
@[simp] theorem rxTimedOut_annCnt : (rxTimedOut s).annCnt = s.annCnt := by simp [rxTimedOut]
@[simp] theorem rxTimedOut_packetsReceived : (rxTimedOut s).packetsReceived = s.packetsReceived := by simp [rxTimedOut]
@[simp] theorem rxTimedOut_packetsDropped : (rxTimedOut s).packetsDropped = s.packetsDropped := by simp [rxTimedOut]
@[simp] theorem rxTimedOut_busLoError : (rxTimedOut s).busLoError = s.busLoError := by simp [rxTimedOut]
@[simp] theorem rxTimedOut_busUartError : (rxTimedOut s).busUartError = s.busUartError := by simp [rxTimedOut]
@[simp] theorem rxTimedOut_busState : (rxTimedOut s).busState = s.busState := by simp [rxTimedOut]
@[simp] theorem rxTimedOut_initialized : (rxTimedOut s).initialized = s.initialized := by simp [rxTimedOut]
@[simp] theorem rxTimedOut_halted : (rxTimedOut s).halted = s.halted := by simp [rxTimedOut]
@[simp] theorem rxTimedOut_now : (rxTimedOut s).now = s.now := by simp [rxTimedOut]
@[simp] theorem rxTimedOut_refusalMark : (rxTimedOut s).refusalMark = s.refusalMark := by simp [rxTimedOut]
@[simp] theorem rxTimedOut_input : (rxTimedOut s).input = s.input := by simp [rxTimedOut]
@[simp] theorem rxTimedOut_pending : (rxTimedOut s).pending = s.pending := by simp [rxTimedOut]
@[simp] theorem rxTimedOut_outcome : (rxTimedOut s).outcome = s.outcome := by simp [rxTimedOut]
@[simp] theorem rxTimedOut_busTimeoutError :
    (rxTimedOut s).busTimeoutError = bumpCounter s.par.cntW s.busTimeoutError := by simp [rxTimedOut]
@[simp] theorem rxTimedOut_out :
    (rxTimedOut s).out = s.out ++ [.faultNonFatal .rxTimeout, .uartRxAbort] := by simp [rxTimedOut]
@[simp] theorem rxTimedOut_rxActive : (rxTimedOut s).rxActive = false := by simp [rxTimedOut]
@[simp] theorem rxTimedOut_rxCount : (rxTimedOut s).rxCount = 0 := by simp [rxTimedOut]
@[simp] theorem rxTimedOut_txQueued : (rxTimedOut s).txQueued = (s.txPending && !s.txActive) := by
  simp [rxTimedOut, tickSched_txQueued]
@[simp] theorem rxTimedOut_tmrKind :
    (rxTimedOut s).tmrKind = if s.txPending && !s.txActive then .pulse else .heartbeat := by
  simp [rxTimedOut, tickSched_tmrKind]

@[simp] theorem completeReception_par : (completeReception s).par = s.par := by simp [completeReception]
@[simp] theorem completeReception_txActive : (completeReception s).txActive = s.txActive := by simp [completeReception]
@[simp] theorem completeReception_txPending : (completeReception s).txPending = s.txPending := by simp [completeReception]
@[simp] theorem completeReception_txFrame : (completeReception s).txFrame = s.txFrame := by simp [completeReception]
@[simp] theorem completeReception_rxSlot0 : (completeReception s).rxSlot0 = s.rxSlot0 := by simp [completeReception]
@[simp] theorem completeReception_rxSlot1 : (completeReception s).rxSlot1 = s.rxSlot1 := by simp [completeReception]
@[simp] theorem completeReception_packetsReceived : (completeReception s).packetsReceived = s.packetsReceived := by simp [completeReception]
@[simp] theorem completeReception_packetsDropped : (completeReception s).packetsDropped = s.packetsDropped := by simp [completeReception]
@[simp] theorem completeReception_busLoError : (completeReception s).busLoError = s.busLoError := by simp [completeReception]
@[simp] theorem completeReception_busTimeoutError : (completeReception s).busTimeoutError = s.busTimeoutError := by simp [completeReception]
@[simp] theorem completeReception_busUartError : (completeReception s).busUartError = s.busUartError := by simp [completeReception]
@[simp] theorem completeReception_busState : (completeReception s).busState = s.busState := by simp [completeReception]
@[simp] theorem completeReception_initialized : (completeReception s).initialized = s.initialized := by simp [completeReception]
@[simp] theorem completeReception_halted : (completeReception s).halted = s.halted := by simp [completeReception]
@[simp] theorem completeReception_now : (completeReception s).now = s.now := by simp [completeReception]
@[simp] theorem completeReception_refusalMark : (completeReception s).refusalMark = s.refusalMark := by simp [completeReception]
@[simp] theorem completeReception_input : (completeReception s).input = s.input := by simp [completeReception]
@[simp] theorem completeReception_pending : (completeReception s).pending = s.pending := by simp [completeReception]
@[simp] theorem completeReception_outcome : (completeReception s).outcome = s.outcome := by simp [completeReception]
@[simp] theorem completeReception_activeSlot : (completeReception s).activeSlot = s.activeSlot.other := by
  simp [completeReception]
@[simp] theorem completeReception_rxCount : (completeReception s).rxCount = 0 := by simp [completeReception]
@[simp] theorem completeReception_rxActive : (completeReception s).rxActive = false := by
  simp [completeReception]
@[simp] theorem completeReception_annCnt :
    (completeReception s).annCnt = (s.annCnt + 1) % s.par.annCntMod := by simp [completeReception]
@[simp] theorem completeReception_txQueued :
    (completeReception s).txQueued = (s.txPending && !s.txActive) := by
  simp [completeReception, tickSched_txQueued]
@[simp] theorem completeReception_tmrKind :
    (completeReception s).tmrKind = if s.txPending && !s.txActive then .pulse else .heartbeat := by
  simp [completeReception, tickSched_tmrKind]
@[simp] theorem completeReception_slot (ix : SlotIx) : (completeReception s).slot ix = s.slot ix := by
  cases ix <;> simp [State.slot]

@[simp] theorem rxError_par (c : NonFatalCode) : (rxError s c).par = s.par := by simp [rxError]
@[simp] theorem rxError_rxActive (c : NonFatalCode) : (rxError s c).rxActive = s.rxActive := by simp [rxError]
@[simp] theorem rxError_txActive (c : NonFatalCode) : (rxError s c).txActive = s.txActive := by simp [rxError]
@[simp] theorem rxError_txQueued (c : NonFatalCode) : (rxError s c).txQueued = s.txQueued := by simp [rxError]
@[simp] theorem rxError_txPending (c : NonFatalCode) : (rxError s c).txPending = s.txPending := by simp [rxError]
@[simp] theorem rxError_txFrame (c : NonFatalCode) : (rxError s c).txFrame = s.txFrame := by simp [rxError]
@[simp] theorem rxError_rxSlot0 (c : NonFatalCode) : (rxError s c).rxSlot0 = s.rxSlot0 := by simp [rxError]
@[simp] theorem rxError_rxSlot1 (c : NonFatalCode) : (rxError s c).rxSlot1 = s.rxSlot1 := by simp [rxError]
@[simp] theorem rxError_activeSlot (c : NonFatalCode) : (rxError s c).activeSlot = s.activeSlot := by simp [rxError]
@[simp] theorem rxError_rxCount (c : NonFatalCode) : (rxError s c).rxCount = s.rxCount := by simp [rxError]
@[simp] theorem rxError_annDeadline (c : NonFatalCode) : (rxError s c).annDeadline = s.annDeadline := by simp [rxError]
@[simp] theorem rxError_annCnt (c : NonFatalCode) : (rxError s c).annCnt = s.annCnt := by simp [rxError]
@[simp] theorem rxError_packetsReceived (c : NonFatalCode) : (rxError s c).packetsReceived = s.packetsReceived := by simp [rxError]
@[simp] theorem rxError_packetsDropped (c : NonFatalCode) : (rxError s c).packetsDropped = s.packetsDropped := by simp [rxError]
@[simp] theorem rxError_busLoError (c : NonFatalCode) : (rxError s c).busLoError = s.busLoError := by simp [rxError]
@[simp] theorem rxError_busTimeoutError (c : NonFatalCode) : (rxError s c).busTimeoutError = s.busTimeoutError := by simp [rxError]
@[simp] theorem rxError_busState (c : NonFatalCode) : (rxError s c).busState = s.busState := by simp [rxError]
@[simp] theorem rxError_tmrKind (c : NonFatalCode) : (rxError s c).tmrKind = s.tmrKind := by simp [rxError]
@[simp] theorem rxError_tmrDeadline (c : NonFatalCode) : (rxError s c).tmrDeadline = s.tmrDeadline := by simp [rxError]
@[simp] theorem rxError_initialized (c : NonFatalCode) : (rxError s c).initialized = s.initialized := by simp [rxError]
@[simp] theorem rxError_halted (c : NonFatalCode) : (rxError s c).halted = s.halted := by simp [rxError]
@[simp] theorem rxError_now (c : NonFatalCode) : (rxError s c).now = s.now := by simp [rxError]
@[simp] theorem rxError_refusalMark (c : NonFatalCode) : (rxError s c).refusalMark = s.refusalMark := by simp [rxError]
@[simp] theorem rxError_input (c : NonFatalCode) : (rxError s c).input = s.input := by simp [rxError]
@[simp] theorem rxError_pending (c : NonFatalCode) : (rxError s c).pending = s.pending := by simp [rxError]
@[simp] theorem rxError_outcome (c : NonFatalCode) : (rxError s c).outcome = s.outcome := by simp [rxError]
@[simp] theorem rxError_busUartError (c : NonFatalCode) :
    (rxError s c).busUartError = bumpCounter s.par.cntW s.busUartError := by simp [rxError]
@[simp] theorem rxError_out (c : NonFatalCode) : (rxError s c).out = s.out ++ [.faultNonFatal c] := by
  simp [rxError]

@[simp] theorem handOff_par (ix : SlotIx) (n : Nat) : (handOff s ix n).par = s.par := by
  cases h : s.input.accept <;> simp [handOff, acceptAnswer, h]
@[simp] theorem handOff_rxActive (ix : SlotIx) (n : Nat) : (handOff s ix n).rxActive = s.rxActive := by
  cases h : s.input.accept <;> simp [handOff, acceptAnswer, h]
@[simp] theorem handOff_txActive (ix : SlotIx) (n : Nat) : (handOff s ix n).txActive = s.txActive := by
  cases h : s.input.accept <;> simp [handOff, acceptAnswer, h]
@[simp] theorem handOff_txQueued (ix : SlotIx) (n : Nat) : (handOff s ix n).txQueued = s.txQueued := by
  cases h : s.input.accept <;> simp [handOff, acceptAnswer, h]
@[simp] theorem handOff_txPending (ix : SlotIx) (n : Nat) : (handOff s ix n).txPending = s.txPending := by
  cases h : s.input.accept <;> simp [handOff, acceptAnswer, h]
@[simp] theorem handOff_txFrame (ix : SlotIx) (n : Nat) : (handOff s ix n).txFrame = s.txFrame := by
  cases h : s.input.accept <;> simp [handOff, acceptAnswer, h]
@[simp] theorem handOff_rxSlot0 (ix : SlotIx) (n : Nat) : (handOff s ix n).rxSlot0 = s.rxSlot0 := by
  cases h : s.input.accept <;> simp [handOff, acceptAnswer, h]
@[simp] theorem handOff_rxSlot1 (ix : SlotIx) (n : Nat) : (handOff s ix n).rxSlot1 = s.rxSlot1 := by
  cases h : s.input.accept <;> simp [handOff, acceptAnswer, h]
@[simp] theorem handOff_activeSlot (ix : SlotIx) (n : Nat) : (handOff s ix n).activeSlot = s.activeSlot := by
  cases h : s.input.accept <;> simp [handOff, acceptAnswer, h]
@[simp] theorem handOff_rxCount (ix : SlotIx) (n : Nat) : (handOff s ix n).rxCount = s.rxCount := by
  cases h : s.input.accept <;> simp [handOff, acceptAnswer, h]
@[simp] theorem handOff_annDeadline (ix : SlotIx) (n : Nat) : (handOff s ix n).annDeadline = s.annDeadline := by
  cases h : s.input.accept <;> simp [handOff, acceptAnswer, h]
@[simp] theorem handOff_annCnt (ix : SlotIx) (n : Nat) : (handOff s ix n).annCnt = s.annCnt := by
  cases h : s.input.accept <;> simp [handOff, acceptAnswer, h]
@[simp] theorem handOff_busLoError (ix : SlotIx) (n : Nat) : (handOff s ix n).busLoError = s.busLoError := by
  cases h : s.input.accept <;> simp [handOff, acceptAnswer, h]
@[simp] theorem handOff_busTimeoutError (ix : SlotIx) (n : Nat) : (handOff s ix n).busTimeoutError = s.busTimeoutError := by
  cases h : s.input.accept <;> simp [handOff, acceptAnswer, h]
@[simp] theorem handOff_busUartError (ix : SlotIx) (n : Nat) : (handOff s ix n).busUartError = s.busUartError := by
  cases h : s.input.accept <;> simp [handOff, acceptAnswer, h]
@[simp] theorem handOff_busState (ix : SlotIx) (n : Nat) : (handOff s ix n).busState = s.busState := by
  cases h : s.input.accept <;> simp [handOff, acceptAnswer, h]
@[simp] theorem handOff_tmrKind (ix : SlotIx) (n : Nat) : (handOff s ix n).tmrKind = s.tmrKind := by
  cases h : s.input.accept <;> simp [handOff, acceptAnswer, h]
@[simp] theorem handOff_tmrDeadline (ix : SlotIx) (n : Nat) : (handOff s ix n).tmrDeadline = s.tmrDeadline := by
  cases h : s.input.accept <;> simp [handOff, acceptAnswer, h]
@[simp] theorem handOff_initialized (ix : SlotIx) (n : Nat) : (handOff s ix n).initialized = s.initialized := by
  cases h : s.input.accept <;> simp [handOff, acceptAnswer, h]
@[simp] theorem handOff_halted (ix : SlotIx) (n : Nat) : (handOff s ix n).halted = s.halted := by
  cases h : s.input.accept <;> simp [handOff, acceptAnswer, h]
@[simp] theorem handOff_now (ix : SlotIx) (n : Nat) : (handOff s ix n).now = s.now := by
  cases h : s.input.accept <;> simp [handOff, acceptAnswer, h]
@[simp] theorem handOff_refusalMark (ix : SlotIx) (n : Nat) : (handOff s ix n).refusalMark = s.refusalMark := by
  cases h : s.input.accept <;> simp [handOff, acceptAnswer, h]
@[simp] theorem handOff_input (ix : SlotIx) (n : Nat) : (handOff s ix n).input = s.input := by
  cases h : s.input.accept <;> simp [handOff, acceptAnswer, h]
@[simp] theorem handOff_pending (ix : SlotIx) (n : Nat) : (handOff s ix n).pending = s.pending := by
  cases h : s.input.accept <;> simp [handOff, acceptAnswer, h]
@[simp] theorem handOff_outcome (ix : SlotIx) (n : Nat) : (handOff s ix n).outcome = s.outcome := by
  cases h : s.input.accept <;> simp [handOff, acceptAnswer, h]
@[simp] theorem handOff_packetsReceived (ix : SlotIx) (n : Nat) :
    (handOff s ix n).packetsReceived = bumpCounter s.par.cntW s.packetsReceived := by
  cases h : s.input.accept <;> simp [handOff, acceptAnswer, h]
@[simp] theorem handOff_out (ix : SlotIx) (n : Nat) :
    (handOff s ix n).out = s.out ++ [.appDispatch ix n] := by
  cases h : s.input.accept <;> simp [handOff, acceptAnswer, h]
theorem handOff_packetsDropped (ix : SlotIx) (n : Nat) :
    (handOff s ix n).packetsDropped =
      if s.input.accept = .rejected then bumpCounter s.par.cntW s.packetsDropped else s.packetsDropped := by
  cases h : s.input.accept <;> simp [handOff, acceptAnswer, h]

/-- How a completed reception ends when it answers a next state: a receive error, or the hand-off of a frame that fits
what was received (41_rx.md R147). -/
theorem finishReception_cases (err : Bool) (ix : SlotIx) (n : Nat) (t : State)
    (h : finishReception err ix n s = .next t) :
    (err = true ∧ t = rxError s .rxUart) ∨
    (err = false ∧ validate s ix n = .ok .tooShort ∧ t = rxError s .rxShort) ∨
    (err = false ∧ validate s ix n = .ok .crcMismatch ∧ t = rxError s .rxCrc) ∨
    (err = false ∧ validate s ix n = .ok .ok ∧ ∃ fs, frameSize s ix = .ok fs ∧ t = handOff s ix fs) := by
  unfold finishReception at h
  cases err
  · simp only [Bool.false_eq_true, if_false] at h
    split at h
    · simp at h
    · next hv => exact .inr (.inl ⟨rfl, hv, by simpa using h.symm⟩)
    · next hv => exact .inr (.inr (.inl ⟨rfl, hv, by simpa using h.symm⟩))
    · next hv =>
      split at h
      · next fs hf => exact .inr (.inr (.inr ⟨rfl, hv, fs, hf, by simpa using h.symm⟩))
      · simp at h
  · exact .inl ⟨rfl, by simpa using h.symm⟩

/-- What RX_BYTE can do when it answers a next state (41_rx.md R142). -/
theorem rxByte_cases (b : Byte) (t : State) (h : rxByte b s = .next t) :
    (t = s.ignored ∧ (s.rxActive = false ∨ s.rxCount = s.par.rxSlotBytes)) ∨
    (s.rxActive = true ∧ s.rxCount < s.par.rxSlotBytes ∧
      t = { s.setSlot s.activeSlot (writeCell (s.slot s.activeSlot) s.rxCount b) with
        rxCount := s.rxCount + 1 }) := by
  unfold rxByte at h
  split at h
  · next hr =>
    split at h
    · next hc => exact .inl ⟨by simpa using h.symm, .inr hc⟩
    · by_cases hlt : s.rxCount < s.par.rxSlotBytes
      · rw [memWrite_ok s _ _ b hlt] at h
        exact .inr ⟨hr, hlt, by simpa using h.symm⟩
      · rw [memWrite_error s _ _ b hlt] at h
        simp at h
  · next hr => exact .inl ⟨by simpa using h.symm, .inl (by simpa using hr)⟩

/-- What RX_DONE can do when it answers a next state (41_rx.md R147). -/
theorem rxDone_cases (err : Bool) (t : State) (h : rxDone err s = .next t) :
    (t = s.ignored ∧ s.rxActive = false) ∨
    (s.rxActive = true ∧ finishReception err s.activeSlot s.rxCount (completeReception s) = .next t) := by
  unfold rxDone at h
  split at h
  · next hr => exact .inr ⟨hr, h⟩
  · next hr => exact .inl ⟨by simpa using h.symm, by simpa using hr⟩

/-- What the header guard can do when it answers a next state (41_rx.md R144). -/
theorem hdrGuard_cases (t : State) (h : hdrGuard s = .next t) :
    (s.rxActive = false ∧ t = s) ∨
    (s.rxActive = true ∧ s.rxCount = 0 ∧ t = rxTimedOut s) ∨
    (s.rxActive = true ∧ s.rxCount ≠ 0 ∧ ∃ fs, frameSize s s.activeSlot = .ok fs ∧
      t = s.armTimer .rxDeadline (s.now + s.par.rxUsPerByte * fs + s.par.rxMarginUs)) := by
  unfold hdrGuard at h
  split at h
  · next hr =>
    split at h
    · next h0 => exact .inr (.inl ⟨hr, h0, by simpa using h.symm⟩)
    · next h0 =>
      split at h
      · next fs hf => exact .inr (.inr ⟨hr, h0, fs, hf, by simpa using h.symm⟩)
      · simp at h
  · next hr => exact .inl ⟨by simpa using hr, by simpa using h.symm⟩

/-- The codec answers on every slot when the parameters are admitted and the received count fits the slot
(40_frame_codec.md R123, R124). -/
theorem validate_ok (ix : SlotIx) (n : Nat) (hv : s.par.valid = true) (hn : n ≤ s.par.rxSlotBytes) :
    ∃ v, validate s ix n = .ok v := by
  have hp := (Params.valid_iff _).mp hv
  unfold validate
  rw [frameSize_ok s ix (by omega)]
  simp only
  split
  · exact ⟨_, rfl⟩
  · rw [memRead_ok s ix 2 _ (by omega), le16_ok s ix 0 (by omega)]
    simp only
    split <;> exact ⟨_, rfl⟩

end Sys2Proof.Machine
end

