-- ==== Sys2Proof/Laws/Tx.lean ====
section
/-! SUPPORT. What the transmitter's shared operations can do (42_tx.md R183 to R185). -/

namespace Sys2Proof.Machine

variable (s : State)

/-- The two endings of a start attempt, outside a reception and with the bus claimed (42_tx.md R183). -/
theorem arbStart_cases (f : TxFrame) (hr : s.rxActive = false) (ha : s.txActive = true)
    (hp : s.txPending = false) :
    (s.input.start = .ok ∧ arbStart f s = { s with
      txQueued := false
      tmrKind := .heartbeat
      tmrDeadline := s.now + s.par.tickUs
      out := s.out ++ [.lowPulse, .uartTxStart f.handle f.len] }) ∨
    (s.input.start = .fail ∧ arbStart f s = { s with
      txActive := false
      txQueued := false
      txPending := true
      busLoError := bumpCounter s.par.cntW s.busLoError
      tmrKind := .heartbeat
      tmrDeadline := s.now + s.par.tickUs
      out := s.out ++ [.lowPulse, .uartTxStart f.handle f.len, .faultNonFatal .txRace] }) := by
  unfold arbStart startAnswer tickSched
  cases h : s.input.start
  · exact .inl ⟨rfl, by simp [h, hr, ha, State.emit, State.armTimer]⟩
  · exact .inr ⟨rfl, by
      simp [h, hr, hp, State.emit, State.armTimer, State.countLoError, State.signalNonFatal]⟩

/-- The four things a pulse can do (42_tx.md R183): the abort, no frame, a start that answers OK, and a start that answers
FAIL. -/
theorem arbPulse_cases :
    ((s.rxActive = true ∨ s.txActive = true) ∧ arbPulse s = s) ∨
    (s.rxActive = false ∧ s.txActive = false ∧ s.txFrame = none ∧ s.input.pull = none ∧
      arbPulse s = { s with
        txQueued := false
        txPending := false
        tmrKind := .heartbeat
        tmrDeadline := s.now + s.par.tickUs
        out := s.out ++ [.appPull] }) ∨
    (s.rxActive = false ∧ s.txActive = false ∧
      ∃ f pulls, ((s.txFrame = some f ∧ pulls = []) ∨
          (s.txFrame = none ∧ s.input.pull = some f ∧ pulls = [Action.appPull])) ∧
        ((s.input.start = .ok ∧ arbPulse s = { s with
            txActive := true
            txQueued := false
            txPending := false
            txFrame := some f
            tmrKind := .heartbeat
            tmrDeadline := s.now + s.par.tickUs
            out := s.out ++ pulls ++ [.lowPulse, .uartTxStart f.handle f.len] }) ∨
          (s.input.start = .fail ∧ arbPulse s = { s with
            txQueued := false
            txPending := true
            txFrame := some f
            busLoError := bumpCounter s.par.cntW s.busLoError
            tmrKind := .heartbeat
            tmrDeadline := s.now + s.par.tickUs
            out := s.out ++ pulls ++
              [.lowPulse, .uartTxStart f.handle f.len, .faultNonFatal .txRace] }))) := by
  by_cases hb : s.rxActive = true ∨ s.txActive = true
  · exact .inl ⟨hb, by unfold arbPulse; rcases hb with h | h <;> simp [h]⟩
  · obtain ⟨hr, ha⟩ : s.rxActive = false ∧ s.txActive = false := by simpa using hb
    have e : arbPulse s =
        (match s.txFrame with
        | some f => arbStart f { s with txActive := true, txQueued := false, txPending := false }
        | none =>
          match s.input.pull with
          | none => tickSched { s with
              txActive := false, txQueued := false, txPending := false, out := s.out ++ [.appPull] }
          | some f => arbStart f { s with
              txActive := true
              txQueued := false
              txPending := false
              out := s.out ++ [.appPull]
              txFrame := some f }) := by
      cases hf : s.txFrame <;> cases hq : s.input.pull <;>
        simp [arbPulse, pullAnswer, State.emit, hr, ha, hf, hq]
    cases hf : s.txFrame with
    | some f =>
      rw [hf] at e
      refine .inr (.inr ⟨hr, ha, f, [], .inl ⟨rfl, rfl⟩, ?_⟩)
      rcases arbStart_cases
        { s with txActive := true, txQueued := false, txPending := false } f hr rfl rfl with ⟨hs, h⟩ | ⟨hs, h⟩
      · exact .inl ⟨hs, by simp only [hf] at h; rw [e]; simpa using h⟩
      · exact .inr ⟨hs, by simp only [hf] at h; rw [e]; simpa [ha] using h⟩
    | none =>
      rw [hf] at e
      cases hq : s.input.pull with
      | none =>
        rw [hq] at e
        exact .inr (.inl ⟨hr, ha, rfl, rfl, by rw [e]; simp [tickSched, hr, ha, State.armTimer]⟩)
      | some f =>
        rw [hq] at e
        refine .inr (.inr ⟨hr, ha, f, [.appPull], .inr ⟨rfl, rfl, rfl⟩, ?_⟩)
        rcases arbStart_cases
          { s with
            txActive := true
            txQueued := false
            txPending := false
            out := s.out ++ [.appPull]
            txFrame := some f } f hr rfl rfl with ⟨hs, h⟩ | ⟨hs, h⟩
        · exact .inl ⟨hs, e.trans h⟩
        · exact .inr ⟨hs, by simpa [ha] using e.trans h⟩

/-- What TX_DONE can do when it answers a next state (42_tx.md R185). -/
theorem txDone_cases (t : State) (h : txDone s = .next t) :
    (t = s.ignored ∧ s.txActive = false) ∨
    (s.txActive = true ∧ ∃ f, s.txFrame = some f ∧
      t = announceThrottle (tickSched { s with
        txFrame := none, txActive := false, out := s.out ++ [.appFrameSent f.handle] })) := by
  unfold txDone at h
  split at h
  · next ha =>
    split at h
    · simp at h
    · next f hf => exact .inr ⟨ha, f, hf, by simpa using h.symm⟩
  · next ha => exact .inl ⟨by simpa using h.symm, by simpa using ha⟩

/-- What PACKET_READY does: arm the pulse on an idle bus, else record the request (42_tx.md R184). -/
theorem packetReady_cases :
    (s.rxActive = false ∧ s.txActive = false ∧ s.txQueued = false ∧
      packetReady s = { s with
        txPending := true
        txQueued := true
        tmrKind := .pulse
        tmrDeadline := s.now + drawAround s s.par.arbNominalUs s.par.arbJitterUs - s.par.wrOverheadUs }) ∨
    ((s.rxActive = true ∨ s.txActive = true ∨ s.txQueued = true) ∧
      packetReady s = { s with txPending := true, txQueued := true }) := by
  unfold packetReady tickSched
  cases hr : s.rxActive <;> cases ha : s.txActive <;> cases hq : s.txQueued <;>
    simp [State.armTimer, drawAround]

end Sys2Proof.Machine
end

