-- ==== Sys2Proof/Laws/Control.lean ====
section
/-! SUPPORT. What the control events can do: TIMER_FIRE by kind, and the reads (44_control.md R242 to R244). -/

namespace Sys2Proof.Machine

variable (s : State)

/-- What TIMER_FIRE can do when it answers a next state: one callback by kind, after the one-shot has disarmed itself
(44_control.md R242). -/
theorem timerFire_cases (t : State) (h : timerFire s = .next t) :
    (t = s.ignored ∧ (s.tmrKind = .none ∨ s.now < s.tmrDeadline)) ∨
    (s.tmrDeadline ≤ s.now ∧
      ((s.tmrKind = .heartbeat ∧ t = heartbeat { s with tmrKind := .none }) ∨
        (s.tmrKind = .pulse ∧ t = arbPulse { s with tmrKind := .none }) ∨
        (s.tmrKind = .hdrGuard ∧ hdrGuard { s with tmrKind := .none } = .next t) ∨
        (s.tmrKind = .rxDeadline ∧ t = rxDeadline { s with tmrKind := .none }))) := by
  unfold timerFire at h
  split at h
  · next h0 => exact .inl ⟨by simpa using h.symm, .inl h0⟩
  · next h0 =>
    split at h
    · next hd => exact .inl ⟨by simpa using h.symm, .inr hd⟩
    · next hd =>
      refine .inr ⟨Nat.le_of_not_lt hd, ?_⟩
      cases hk : s.tmrKind <;> rw [hk] at h <;> simp only [timerCallback] at h
      · exact absurd hk h0
      · exact .inl ⟨rfl, by simpa using h.symm⟩
      · exact .inr (.inl ⟨rfl, by simpa using h.symm⟩)
      · exact .inr (.inr (.inl ⟨rfl, h⟩))
      · exact .inr (.inr (.inr ⟨rfl, by simpa using h.symm⟩))

/-- A register value reads neither the outputs nor the outcome nor the time nor the inputs nor the run's mark
(20_memory.md R77). -/
theorem regValue_congr (t : State) (a : BitVec 8) (h : t = { s with
    now := t.now, input := t.input, pending := t.pending, out := t.out, outcome := t.outcome,
    refusalMark := t.refusalMark }) : regValue t a = regValue s a := by
  rw [h]; rfl

/-- REG_READ only emits (44_control.md R243). -/
theorem regRead_eq (a : BitVec 8) : regRead a s = { s with out := s.out ++ [.readData (regValue s a)] } := rfl

/-- DIAG_SNAPSHOT only emits the seven values of the state it starts from (44_control.md R244). -/
theorem diagSnapshot_eq :
    diagSnapshot s = { s with
      out := s.out ++ snapshotAddrs.map fun a => .readData (regValue s a) } := by
  have h (o : List Action) (a : BitVec 8) : regValue { s with out := o } a = regValue s a := rfl
  simp [diagSnapshot, snapshotAddrs, State.emit, h]

end Sys2Proof.Machine
end

