-- ==== Sys2Proof/Laws/Decode.lean ====
section
/-! SUPPORT. The fields of an event word: packing and taking apart are inverse (30_encoding.md R91). -/

namespace Sys2Proof

/-- Which field a bit of a packed word comes from. -/
theorem packEvent_getLsbD (d : BitVec 8) (a c : BitVec 4) (i : Nat) :
    (packEvent d a c).getLsbD i =
      if i < 4 then c.getLsbD i else if i < 8 then a.getLsbD (i - 4) else d.getLsbD (i - 8) := by
  have h1 : (packEvent d a c).getLsbD i =
      if i < 4 then c.getLsbD i else ((d ++ a : BitVec (8 + 4)).getLsbD (i - 4)) := by
    simpa [packEvent, Bool.cond_decide] using BitVec.getLsbD_append (x := d ++ a) (y := c) (i := i)
  rw [h1, BitVec.getLsbD_append]
  by_cases h4 : i < 4
  · simp [h4]
  · by_cases h8 : i < 8
    · simp [h4, h8, show i - 4 < 4 by omega]
    · simp [h4, h8, show ¬i - 4 < 4 by omega, show i - 4 - 4 = i - 8 by omega]

@[simp] theorem eventCode_packEvent (d : BitVec 8) (a c : BitVec 4) : eventCode (packEvent d a c) = c := by
  refine BitVec.eq_of_getLsbD_eq fun i hi => ?_
  simp [eventCode, packEvent_getLsbD, hi]

@[simp] theorem eventArg_packEvent (d : BitVec 8) (a c : BitVec 4) : eventArg (packEvent d a c) = a := by
  refine BitVec.eq_of_getLsbD_eq fun i hi => ?_
  simp [eventArg, packEvent_getLsbD, hi, show 4 + i < 8 by omega]

@[simp] theorem eventData_packEvent (d : BitVec 8) (a c : BitVec 4) : eventData (packEvent d a c) = d := by
  refine BitVec.eq_of_getLsbD_eq fun i hi => ?_
  simp [eventData, packEvent_getLsbD, hi, show ¬8 + i < 4 by omega]

/-- A word is its three fields. -/
theorem packEvent_fields (w : EventWord) : packEvent (eventData w) (eventArg w) (eventCode w) = w := by
  refine BitVec.eq_of_getLsbD_eq fun i hi => ?_
  rw [packEvent_getLsbD]
  by_cases h4 : i < 4
  · simp [h4, eventCode]
  · by_cases h8 : i < 8
    · simp [h4, h8, eventArg, show i - 4 < 4 by omega, show 4 + (i - 4) = i by omega]
    · simp [h4, h8, eventData, show i - 8 < 8 by omega, show 8 + (i - 8) = i by omega]

/-- The ARG of a one-bit operand with `ARG[3:1]` zero is its bit (30_encoding.md R93). -/
theorem argOfBit_arg_zero (a : BitVec 4) (h : a.extractLsb' 1 3 = 0#3) : argOfBit a[0] = a := by
  revert h; revert a; decide

/-- An accepted event is the one offered, and its fields are zero. -/
theorem acceptWhen_ok {z : Bool} {i j : Instr} (h : acceptWhen z i = .ok j) : z = true ∧ i = j := by
  cases z <;> simp_all [acceptWhen]

end Sys2Proof
end

