-- ==== Sys2Proof/Laws/Exec.lean ====
section
/-! SUPPORT. What one event and one step can do: the prologue is taken apart once, here, so that a proof about every event
only has the nine event rules left. -/

namespace Sys2Proof.Machine

/-- The rule of an event, without the prologue: the case of 44_control.md R240. -/
def rule : Instr → State → Result
  | .init, s => .next (initRule s)
  | .lineFall wh, s => .next (lineFall wh s)
  | .rxByte b, s => rxByte b s
  | .rxDone err, s => rxDone err s
  | .timerFire, s => timerFire s
  | .packetReady, s => .next (packetReady s)
  | .txDone _, s => txDone s
  | .regRead a, s => .next (regRead a s)
  | .diagSnapshot, s => .next (diagSnapshot s)

/-- The events that the HALTED filter lets through (44_control.md R240). -/
def isRead : Instr → Bool
  | .regRead _ => true
  | .diagSnapshot => true
  | _ => false

/-- The events that the INITIALIZED filter lets through (44_control.md R240). -/
def beforeInit : Instr → Bool
  | .init => true
  | i => isRead i

/-- Every event of the table is its rule behind the one prologue. -/
theorem exec_eq_runEvent (i : Instr) (s : State) (h : i.wf = true) :
    exec i s = runEvent (isRead i) (beforeInit i) (rule i) s := by
  cases i with
  | regRead a => simp only [exec, execRegRead, h, if_true]; rfl
  | _ => rfl

/-- An event that reaches its rule runs it from the state with an empty output list and the latched time. -/
theorem exec_live (i : Instr) (s : State) (h : i.wf = true) (hi : s.initialized = true ∨ beforeInit i = true)
    (hh : s.halted = false) (hn : s.now ≤ s.input.now) : exec i s = rule i s.begin.latchNow := by
  rw [exec_eq_runEvent i s h, runEvent_live _ _ _ _ hi hh hn]

/-- What one event can do when it answers a next state. -/
theorem exec_cases (i : Instr) (s t : State) (h : exec i s = .next t) :
    (∃ r, t = s.markRefused r ∧ (s.input.now < s.now ∨ i.wf = false)) ∨
    (s.now ≤ s.input.now ∧ s.halted = true ∧ isRead i = true ∧ rule i s.begin = .next t) ∨
    (s.now ≤ s.input.now ∧ s.halted = true ∧ isRead i = false ∧ t = s.begin.ignored) ∨
    (s.now ≤ s.input.now ∧ s.halted = false ∧ (s.initialized = true ∨ beforeInit i = true) ∧
      rule i s.begin.latchNow = .next t) ∨
    (s.now ≤ s.input.now ∧ s.halted = false ∧ s.initialized = false ∧ beforeInit i = false ∧
      t = s.begin.latchNow.ignored) := by
  cases hw : i.wf
  · cases i with
    | regRead a =>
      simp only [exec, execRegRead, hw] at h
      exact .inl ⟨.misaligned, by simpa using h.symm, .inr rfl⟩
    | _ => simp [Instr.wf] at hw
  · rw [exec_eq_runEvent i s hw] at h
    rcases runEvent_cases s (isRead i) (beforeInit i) (rule i) with
      ⟨hn, e⟩ | ⟨hn, hh, hr, e⟩ | ⟨hn, hh, hr, e⟩ | ⟨hn, hh, hi, e⟩ | ⟨hn, hh, hi, hb, e⟩ <;> rw [e] at h
    · exact .inl ⟨.timeRegression, by simpa using h.symm, .inl hn⟩
    · exact .inr (.inl ⟨hn, hh, hr, h⟩)
    · exact .inr (.inr (.inl ⟨hn, hh, hr, by simpa using h.symm⟩))
    · exact .inr (.inr (.inr (.inl ⟨hn, hh, hi, h⟩)))
    · exact .inr (.inr (.inr (.inr ⟨hn, hh, hi, hb, by simpa using h.symm⟩)))

/-- What one step can do when it answers a next state. -/
theorem step_cases (s t : State) (h : step s = .next t) :
    s.par.valid = true ∧
    ((s.pending = [] ∧ t = s.waitIdle) ∨
      ∃ inp rest, s.pending = inp :: rest ∧
        ((∃ r, decode inp.word = .error r ∧ t = (s.deliver inp rest).markRefused r) ∨
          ∃ i, decode inp.word = .ok i ∧ exec i (s.deliver inp rest) = .next t)) := by
  unfold step at h
  cases hv : s.par.valid
  · simp [hv] at h
  · refine ⟨rfl, ?_⟩
    rw [hv, if_pos rfl] at h
    cases hp : s.pending with
    | nil => exact .inl ⟨rfl, by rw [hp] at h; simpa using h.symm⟩
    | cons inp rest =>
      refine .inr ⟨inp, rest, rfl, ?_⟩
      rw [hp] at h
      simp only at h
      cases hd : decode inp.word with
      | error r => exact .inl ⟨r, rfl, by rw [hd] at h; simpa using h.symm⟩
      | ok i => exact .inr ⟨i, rfl, by rw [hd] at h; exact h⟩

end Sys2Proof.Machine
end

