-- ==== Sys2Proof/Laws/PerInstr.lean ====
section
/-! SUPPORT. What holds of each event as syntax, one lemma per constructor. -/

namespace Sys2Proof.Laws.TableRow

/-- The word of an event matches the row of its mnemonic (30_encoding.md R100, R101). -/
def Statement (i : Instr) : Prop := i.wf = true → i.row.admits (encode i) = true

theorem init : Statement .init := fun _ => by decide

theorem lineFall (wh : Bool) : Statement (.lineFall wh) := fun _ => by revert wh; decide

theorem rxByte (b : Byte) : Statement (.rxByte b) := fun _ => by
  have h : ∀ c : Byte, (Instr.row (.rxByte c)).admits (encode (.rxByte c)) = true := by decide +kernel
  exact h b

theorem rxDone (err : Bool) : Statement (.rxDone err) := fun _ => by revert err; decide

theorem timerFire : Statement .timerFire := fun _ => by decide

theorem packetReady : Statement .packetReady := fun _ => by decide

theorem txDone (code : BitVec 4) : Statement (.txDone code) := fun _ => by revert code; decide

theorem regRead (a : BitVec 8) : Statement (.regRead a) := by
  have h : ∀ c : BitVec 8,
      (Instr.regRead c).wf = true → (Instr.row (.regRead c)).admits (encode (.regRead c)) = true := by decide +kernel
  exact h a

theorem diagSnapshot : Statement .diagSnapshot := fun _ => by decide

end Sys2Proof.Laws.TableRow
end

