-- ==== Sys2Proof/Tests/Slice0.lean ====
section
/-! SUPPORT. Tests on fixed values, expected results from spec/95_test_vectors.md (its vector is named), and for every
statement with hypotheses a concrete state and operands that meet them all (`witness_<statement>`). -/

namespace Sys2Proof.Tests

open Sys2Proof.Machine Sys2Proof.Safety

/-! ## Helpers -/

/-- The next state of a result, and the reset state for a stop. -/
def after : Result → State
  | .next t => t
  | _ => State.reset

/-- Whether a result is a next state. -/
def ran : Result → Bool
  | .next _ => true
  | _ => false

theorem next_of_ran {r : Result} (h : ran r = true) : r = .next (after r) := by
  cases r <;> simp_all [ran, after]

theorem eq_after {r : Result} {t : State} (h : r = .next t) : t = after r := by
  rw [h]; rfl

/-- An input with this word and timestamp, and the answers and draws of `Input.atReset`. -/
def ev (w : EventWord) (now : Nat) : Input := { Input.atReset with word := w, now := now }

/-- The state in which an event with timestamp `n` is being delivered. -/
def atTime (n : Nat) (s : State) : State := { s with input := { s.input with now := n } }

/-- `Initialized@0` of spec/95_test_vectors.md section 2. -/
def ready : State := { State.reset with initialized := true, tmrKind := .heartbeat, tmrDeadline := 10000 }

/-- The end state of vector RX1. -/
def receiving : State :=
  { ready with rxActive := true, tmrKind := .hdrGuard, tmrDeadline := 1100, now := 1000 }

/-- The end state of vector TX1. -/
def queued : State :=
  { ready with txPending := true, txQueued := true, tmrKind := .pulse, tmrDeadline := 610, now := 500 }

/-- The end state of vector TX3. -/
def sending : State :=
  { ready with txActive := true, txFrame := some ⟨7, 10⟩, tmrDeadline := 10612, now := 612 }

/-- The end state of vector RX13. -/
def stopped : State := { receiving with tmrDeadline := 200, now := 150, halted := true }

/-- A slot that holds these bytes from offset 0. -/
def slotOf (bs : List Byte) : Memory := bs.zipIdx.foldl (fun m p => writeCell m p.2 p.1) []

/-- Frame V1 of spec/95_test_vectors.md section 0. -/
def frameV1 : List Byte := [0xF9#8, 0x68#8, 6#8, 0#8, 1#8, 2#8, 3#8, 4#8, 5#8, 6#8]

/-- Parameters with a slot of four bytes, the smallest that 00_scope.md R9 admits with the default bias and a frame. -/
def smallPar : Params := { Params.default with rxSlotBytes := 4 }

/-! ## WellFormed -/

/-- A REG_READ of a misaligned address is the one ill-formed event (30_encoding.md R96). -/
theorem test_wf_refuses_misaligned :
    (Instr.regRead 0x01#8).wf = false ∧ (Instr.regRead 0x02#8).wf = false ∧
      (Instr.regRead 0x03#8).wf = false ∧ (Instr.regRead 0xFF#8).wf = false := by decide

theorem test_wf_admits_aligned :
    (Instr.regRead 0x00#8).wf = true ∧ (Instr.regRead 0x18#8).wf = true ∧
      (Instr.regRead 0xFC#8).wf = true := by decide

/-! ## Decode: the words of vectors DC1 to DC23 -/

theorem test_decode_init : decode 0x0001#16 = .ok .init := by decide
theorem test_decode_lineFall :
    decode 0x0002#16 = .ok (.lineFall false) ∧ decode 0x0012#16 = .ok (.lineFall true) := by decide
theorem test_decode_rxByte :
    decode 0x0003#16 = .ok (.rxByte 0x00#8) ∧ decode 0xFF03#16 = .ok (.rxByte 0xFF#8) ∧
      decode 0x6803#16 = .ok (.rxByte 0x68#8) := by decide
theorem test_decode_rxDone :
    decode 0x0004#16 = .ok (.rxDone false) ∧ decode 0x0014#16 = .ok (.rxDone true) := by decide
theorem test_decode_timerFire : decode 0x0005#16 = .ok .timerFire := by decide
theorem test_decode_packetReady : decode 0x0006#16 = .ok .packetReady := by decide
theorem test_decode_txDone :
    decode 0x0007#16 = .ok (.txDone 0#4) ∧ decode 0x0037#16 = .ok (.txDone 3#4) ∧
      decode 0x00F7#16 = .ok (.txDone 15#4) := by decide
theorem test_decode_regRead :
    decode 0x0008#16 = .ok (.regRead 0x00#8) ∧ decode 0x0408#16 = .ok (.regRead 0x04#8) ∧
      decode 0x1808#16 = .ok (.regRead 0x18#8) ∧ decode 0xFC08#16 = .ok (.regRead 0xFC#8) := by decide
theorem test_decode_diagSnapshot : decode 0x0009#16 = .ok .diagSnapshot := by decide

/-- DC1, DC2. -/
theorem test_decode_reserved :
    decode 0x0000#16 = .error .reservedCode ∧ decode 0x000A#16 = .error .reservedCode ∧
      decode 0x000F#16 = .error .reservedCode := by decide

/-- DC4, DC6, DC7, DC9, DC11, DC13, DC15, DC17, DC21, DC23. -/
theorem test_decode_mustBeZero :
    decode 0x0011#16 = .error .mustBeZero ∧ decode 0x0022#16 = .error .mustBeZero ∧
      decode 0x0102#16 = .error .mustBeZero ∧ decode 0x0013#16 = .error .mustBeZero ∧
      decode 0x0024#16 = .error .mustBeZero ∧ decode 0x0105#16 = .error .mustBeZero ∧
      decode 0x0016#16 = .error .mustBeZero ∧ decode 0x0107#16 = .error .mustBeZero ∧
      decode 0x0018#16 = .error .mustBeZero ∧ decode 0x0109#16 = .error .mustBeZero := by decide

/-- DC20. -/
theorem test_decode_misaligned :
    decode 0x0108#16 = .error .misaligned ∧ decode 0x0208#16 = .error .misaligned ∧
      decode 0x0308#16 = .error .misaligned := by decide

theorem test_decodeTableWord :
    decodeTableWord 16 0x1808 = some (.regRead 0x18#8) ∧ decodeTableWord 16 0x0000 = none := by decide

/-- `withFetchWord` makes the next step run the word, here INIT of vector CT1. -/
theorem test_withFetchWord_init :
    (after (step (State.reset.withFetchWord 16 0x0001))).out = [.uartInit] := by decide

/-! ## The frame codec: section 0 and vectors CV4 to CV12 -/

/-- The check values of 00_scope.md R10: the bytes of "123456789", and no byte. -/
theorem test_crc_check_values :
    crcCcittFalse [0x31#8, 0x32#8, 0x33#8, 0x34#8, 0x35#8, 0x36#8, 0x37#8, 0x38#8, 0x39#8] = 0x29B1#16 ∧
      crcCcittFalse [] = 0xFFFF#16 := by decide +kernel

/-- CV4, CV8, CV9, CV10. -/
theorem test_validate :
    (validate { ready with rxSlot0 := slotOf frameV1 } .s0 10).toOption = some .ok ∧
      (validate { ready with rxSlot0 := writeCell (slotOf frameV1) 9 7#8 } .s0 6).toOption = some .tooShort ∧
      (validate ready .s1 0).toOption = some .tooShort ∧
      (validate ready .s1 4).toOption = some .crcMismatch := by decide +kernel

/-! ## One step of each event -/

/-- CT1. -/
theorem test_init_arms_heartbeat :
    let t := after (exec .init State.reset)
    t.out = [.uartInit] ∧ t.tmrKind = .heartbeat ∧ t.tmrDeadline = 10000 ∧ t.status = 0x40#32 := by decide

/-- CT2. -/
theorem test_second_init_is_ignored :
    let t := after (exec .init (atTime 5 ready))
    t.outcome = .ignored ∧ t.tmrDeadline = 10000 ∧ t.now = 5 := by decide

/-- RX1. -/
theorem test_lineFall_arms_guard :
    let t := after (exec (.lineFall true) (atTime 1000 ready))
    t.out = [.uartRxStart .s0 259] ∧ t.tmrKind = .hdrGuard ∧ t.tmrDeadline = 1100 ∧ t.status = 0x49#32 := by decide

/-- RX2: a failed wait with a transmission pending, draw 200. -/
theorem test_lineFall_failed_wait :
    let t := after (exec (.lineFall false) { queued with input := { ev 0x0002#16 300 with around := 100 }, now := 200 })
    t.out = [.faultNonFatal .rxTimeout, .uartRxAbort] ∧ t.tmrKind = .pulse ∧ t.tmrDeadline = 490 ∧
      t.status = 0x4C#32 := by decide

/-- The example of 41_rx.md R142: a byte into slot 1 at offset 2. -/
theorem test_rxByte_stores_in_active_slot :
    let t := after (exec (.rxByte 0x55#8) { receiving with activeSlot := .s1, rxCount := 2, now := 0 })
    t.slotByte .s1 2 = 0x55#8 ∧ t.slotByte .s0 2 = 0#8 ∧ t.rxCount = 3 := by decide

/-- RX6: a byte past the end of the slot. -/
theorem test_rxByte_past_end_is_ignored :
    let t := after (exec (.rxByte 0xAA#8) { receiving with rxCount := 259, now := 0 })
    t.outcome = .ignored ∧ t.rxCount = 259 := by decide

/-- E6: frame V1 is dispatched once, from slot 0, with length 10. -/
theorem test_rxDone_dispatches_valid_frame :
    let t := after (exec (.rxDone false) { receiving with rxSlot0 := slotOf frameV1, rxCount := 10, now := 0 })
    t.out = [.appDispatch .s0 10] ∧ t.packetsReceived = 1#32 ∧ t.activeSlot = .s1 := by decide +kernel

/-- RX8: the transport error, draw 7. -/
theorem test_rxDone_transport_error :
    let t := after (exec (.rxDone true)
      { receiving with rxSlot0 := slotOf [0x0F#8], rxCount := 1, now := 20, input := { ev 0x0014#16 30 with jitter := 7 } })
    t.out = [.faultNonFatal .rxUart] ∧ t.annDeadline = 499037 ∧ t.tmrDeadline = 10030 ∧ t.status = 0x50#32 := by decide

/-- TX3. -/
theorem test_timerFire_pulse_starts :
    let t := after (exec .timerFire { queued with input := { ev 0x0005#16 612 with pull := some ⟨7, 10⟩ } })
    t.out = [.appPull, .lowPulse, .uartTxStart 7 10] ∧ t.tmrDeadline = 10612 ∧ t.status = 0x4A#32 := by decide

/-- RX5: one byte has arrived, so the size byte still reads 0. -/
theorem test_timerFire_guard_arms_deadline :
    let t := after (exec .timerFire { atTime 110 receiving with
      rxSlot0 := slotOf [0xF9#8], rxCount := 1, tmrDeadline := 110, now := 20 })
    t.out = [] ∧ t.tmrKind = .rxDeadline ∧ t.tmrDeadline = 218 := by decide

/-- TX1, draw 120. -/
theorem test_packetReady_arms_pulse :
    let t := after (exec .packetReady { ready with input := { ev 0x0006#16 500 with around := 20 } })
    t.out = [] ∧ t.tmrKind = .pulse ∧ t.tmrDeadline = 610 ∧ t.status = 0x4C#32 := by decide

/-- TX5: during a transmission only the request is recorded. -/
theorem test_packetReady_on_busy_bus :
    let t := after (exec .packetReady (atTime 700 sending))
    t.tmrKind = .heartbeat ∧ t.tmrDeadline = 10612 ∧ t.status = 0x4E#32 := by decide

/-- TX6: the code is not read, draws 100 and 0. -/
theorem test_txDone_reports_and_rearms :
    let t := after (exec (.txDone 15#4) { atTime 300 sending with
      txFrame := some ⟨1, 8⟩, txPending := true, txQueued := true, tmrDeadline := 10190, now := 200 })
    t.out = [.appFrameSent 1] ∧ t.tmrDeadline = 390 ∧ t.annDeadline = 499300 ∧ t.status = 0x5C#32 := by decide

/-- TX8. -/
theorem test_txDone_without_transmission :
    let t := after (exec (.txDone 0#4) (atTime 7 ready))
    t.outcome = .ignored ∧ t.now = 7 := by decide

/-- CT9, CT12. -/
theorem test_regRead :
    (after (exec (.regRead 0x00#8) (atTime 600 queued))).out = [.readData 0x4C#32] ∧
      (after (exec (.regRead 0x04#8) (atTime 600 queued))).out = [.readData 0#32] ∧
      (after (exec (.regRead 0x1C#8) (atTime 600 queued))).out = [.readData 0#32] := by decide

/-- CT11: the halted machine reads STATUS 0x69 and keeps NOW. -/
theorem test_regRead_while_halted :
    let t := after (exec (.regRead 0x00#8) (atTime 210 stopped))
    t.out = [.readData 0x69#32] ∧ t.now = 150 := by decide

/-- CT10. -/
theorem test_diagSnapshot :
    (after (exec .diagSnapshot { atTime 12160 ready with annDeadline := 509000, packetsReceived := 1#32 })).out =
      [.readData 0x50#32, .readData 0#32, .readData 1#32, .readData 0#32, .readData 0#32, .readData 0#32,
        .readData 0#32] := by decide

/-! ## Witnesses: encoding -/

theorem witness_DecodeEncodeRoundTrip :
    (Instr.regRead 0xFC#8).wf = true ∧ (Instr.txDone 15#4).wf = true ∧ (Instr.rxByte 0xFF#8).wf = true := by decide

theorem witness_EncodeDecodeRoundTrip : decode 0xFC08#16 = .ok (.regRead 0xFC#8) := by decide

theorem witness_AcceptedWordMatchesOneTableRow :
    decode 0x00F7#16 = .ok (.txDone 15#4) ∧ decode 0x0108#16 = .error .misaligned := by decide

theorem witness_RefusalReasonOfWord :
    decode 0x000A#16 = .error .reservedCode ∧ decode 0x0308#16 = .error .misaligned ∧
      decode 0x0318#16 = .error .mustBeZero := by decide

/-! ## Witnesses: the step -/

theorem witness_StepRunsDecodedEvent :
    let s := { ready with pending := [ev 0x0408#16 5] }
    s.par.valid = true ∧ s.pending = ev 0x0408#16 5 :: [] ∧
      decode (ev 0x0408#16 5).word = .ok (.regRead 0x04#8) := by decide

theorem witness_NoPendingEventWaits : ready.par.valid = true ∧ ready.pending = [] := by decide

theorem witness_RefusedWordOnlySetsStickyMark :
    (let s := { ready with pending := [ev 0x0000#16 5] }
     s.par.valid = true ∧ s.pending = ev 0x0000#16 5 :: [] ∧
       decode (ev 0x0000#16 5).word = .error .reservedCode) ∧
    (let s := { ready with refusalMark := true, pending := [ev 0x0005#16 5] }
     step s = .next (after (step s)) ∧ s.refusalMark = true) :=
  ⟨by decide, next_of_ran (by decide), by decide⟩

theorem witness_TimeRegressionIsRefused :
    Instr.timerFire.wf = true ∧ (atTime 999 receiving).input.now < (atTime 999 receiving).now := by decide

/-- Both sides of the equivalence occur, and each constraint of 00_scope.md R9 at its boundary. -/
theorem witness_BadParametersAreRejected :
    Params.default.valid = true ∧ { Params.default with frameSizeBias := 3 }.valid = false ∧
      { Params.default with rxSlotBytes := 3 }.valid = true ∧ { Params.default with rxSlotBytes := 2 }.valid = false ∧
      { Params.default with arbJitterUs := 140 }.valid = true ∧
      { Params.default with arbJitterUs := 141 }.valid = false ∧ { Params.default with tickUs := 0 }.valid = false ∧
      { Params.default with hdrGuardUs := 0 }.valid = false ∧
      { Params.default with annIntervalUs := 0 }.valid = false ∧
      { Params.default with annCntMod := 0 }.valid = false ∧ { Params.default with cntW := 0 }.valid = false ∧
      { Params.default with cntW := 33 }.valid = false := by decide

theorem witness_StepKeepsParametersAndTime :
    let s := { receiving with pending := [ev 0x5503#16 1001] }
    step s = .next (after (step s)) := next_of_ran (by decide)

theorem witness_HaltedStateIsFrozen :
    (let s := { receiving with pending := [ev 0x0012#16 1050] }
     step s = .next (after (step s)) ∧ s.halted = false ∧ (after (step s)).halted = true) ∧
    (let s := { stopped with pending := [ev 0x0008#16 210] }
     step s = .next (after (step s)) ∧ s.halted = true) ∧
    (stopped.halted = true ∧ (atTime 150 stopped).now ≤ (atTime 150 stopped).input.now ∧
      Instr.packetReady ≠ .diagSnapshot ∧ ∀ a, Instr.packetReady ≠ .regRead a) ∧
    (exec (.regRead 0x00#8) (atTime 150 stopped) = .next (after (exec (.regRead 0x00#8) (atTime 150 stopped))) ∧
      (atTime 150 stopped).halted = true) :=
  ⟨⟨next_of_ran (by decide), by decide, by decide⟩, ⟨next_of_ran (by decide), by decide⟩,
    ⟨by decide, by decide, by decide, nofun⟩, next_of_ran (by decide), by decide⟩

theorem witness_EventsBeforeInitAreIgnored :
    (State.reset.initialized = false ∧ State.reset.halted = false ∧ State.reset.now ≤ State.reset.input.now ∧
      Instr.packetReady ≠ .init ∧ Instr.packetReady ≠ .diagSnapshot ∧ ∀ a, Instr.packetReady ≠ .regRead a) ∧
    exec .init State.reset = .next (after (exec .init State.reset)) ∧
    (let s := { ready with pending := [ev 0x0001#16 5] }
     step s = .next (after (step s)) ∧ s.initialized = true) :=
  ⟨⟨by decide, by decide, by decide, by decide, by decide, nofun⟩, next_of_ran (by decide),
    next_of_ran (by decide), by decide⟩

/-- Each row of the table, and one event that acts. -/
theorem witness_IgnoredCasesAreTheTable :
    (live (atTime 5 ready) ∧ (after (exec .init (atTime 5 ready))).outcome = .ignored) ∧
    (live (atTime 612 sending) ∧ (after (exec (.lineFall true) (atTime 612 sending))).outcome = .ignored) ∧
    (after (exec (.rxByte 1#8) ready)).outcome = .ignored ∧
    (after (exec (.rxByte 1#8) (atTime 1000 { receiving with rxCount := 259 }))).outcome = .ignored ∧
    (after (exec (.rxDone false) ready)).outcome = .ignored ∧
    (after (exec .timerFire (atTime 9999 ready))).outcome = .ignored ∧
    (after (exec .timerFire { ready with tmrKind := .none })).outcome = .ignored ∧
    (after (exec (.txDone 0#4) ready)).outcome = .ignored ∧
    (live (atTime 10000 ready) ∧ Instr.timerFire.wf = true ∧
      (after (exec .timerFire (atTime 10000 ready))).outcome = .acted) := by decide

theorem witness_InitArmsFirstHeartbeat :
    (State.reset.initialized = false ∧ State.reset.halted = false ∧ State.reset.now ≤ State.reset.input.now) ∧
    State.reset.rxActive = false ∧ (State.reset.txPending = false ∨ State.reset.txActive = true) := by decide

/-! ## Witnesses: the receiver -/

theorem witness_LineFallStartsReception :
    let s := atTime 1000 { ready with rxSlot0 := slotOf frameV1 }
    live s ∧ s.rxActive = false ∧ s.txActive = false := by decide

theorem witness_LineFallFailedWaitTimesOut :
    (live (atTime 300 ready) ∧ ready.rxActive = false ∧ ready.txActive = false) ∧
    (live (atTime 500 queued) ∧ queued.rxActive = false ∧ queued.txActive = false) := by decide

theorem witness_LineFallReentryHaltsAndMaskIgnores :
    (live (atTime 1000 receiving) ∧ receiving.rxActive = true) ∧
    (live (atTime 612 sending) ∧ sending.rxActive = false ∧ sending.txActive = true) := by decide

/-- The first and the last offset of the slot, no reception, and the slot full. -/
theorem witness_RxByteStoresAtCount :
    (let s := atTime 1000 receiving
     live s ∧ slotsOk s ∧ s.rxActive = true ∧ s.rxCount < s.par.rxSlotBytes) ∧
    (let s := atTime 1000 { receiving with rxCount := 258, rxSlot0 := slotOf frameV1 }
     live s ∧ slotsOk s ∧ s.rxActive = true ∧ s.rxCount < s.par.rxSlotBytes) ∧
    (live ready ∧ ready.rxActive = false) ∧
    (let s := atTime 1000 { receiving with rxCount := 259 }
     live s ∧ s.rxCount = s.par.rxSlotBytes) := by decide

/-- A full slot of four bytes, with a PACKET_READY and a read in between. -/
def assembly : State :=
  { ready with
    par := smallPar
    pending := ev 0x0012#16 10 :: ([ev 0x0F03#16 11, ev 0x0006#16 11, ev 0x1D03#16 12, ev 0x0003#16 12,
      ev 0x0008#16 13, ev 0x0103#16 13] ++ [ev 0x0004#16 14]) }

theorem witness_FrameAssembly :
    let es := [ev 0x0F03#16 11, ev 0x0006#16 11, ev 0x1D03#16 12, ev 0x0003#16 12, ev 0x0008#16 13, ev 0x0103#16 13]
    assembly.par.valid = true ∧ slotsOk assembly ∧ assembly.initialized = true ∧ assembly.halted = false ∧
      assembly.rxActive = false ∧ assembly.txActive = false ∧
      assembly.pending = ev 0x0012#16 10 :: (es ++ [ev 0x0004#16 14]) ∧
      (ev 0x0012#16 10).word = encode (.lineFall true) ∧ (∀ e ∈ es, withinReception e = true) ∧
      (assembly.now :: (ev 0x0012#16 10).now :: es.map fun e => e.now).IsChain (· ≤ ·) ∧
      (receivedBytes es).length ≤ assembly.par.rxSlotBytes ∧
      runSteps (1 + es.length) assembly = .next (after (runSteps (1 + es.length) assembly)) ∧
      (after (runSteps (1 + es.length) assembly)).rxActive = true :=
  ⟨by decide, by decide, by decide, by decide, by decide, by decide, by decide, by decide, by decide, by decide,
    by decide, next_of_ran (by decide), by decide⟩

theorem witness_FrameAssembly_bytes_alone :
    let feed : List (Byte × Input) := [(0x0F#8, ev 0x0F03#16 11), (0x1D#8, ev 0x1D03#16 11), (0#8, ev 0x0003#16 12),
      (1#8, ev 0x0103#16 12)]
    let s := { assembly with pending := ev 0x0012#16 10 :: (feed.map Prod.snd ++ []) }
    s.par.valid = true ∧ slotsOk s ∧ s.initialized = true ∧ s.halted = false ∧ s.rxActive = false ∧
      s.txActive = false ∧ (∀ x ∈ feed, x.2.word = encode (.rxByte x.1)) ∧
      (s.now :: (ev 0x0012#16 10).now :: feed.map fun x => x.2.now).IsChain (· ≤ ·) ∧
      feed.length ≤ s.par.rxSlotBytes := by decide

/-- At the deadline, with no byte and with one. -/
theorem witness_HeaderGuardTimesOutOrArmsDeadline :
    let s := atTime 1100 receiving
    let t := { s with rxCount := 1 }
    (live s ∧ s.par.valid = true ∧ s.tmrKind = .hdrGuard ∧ s.tmrDeadline ≤ s.input.now ∧ s.rxActive = true ∧
      s.rxCount = 0) ∧
    (live t ∧ t.par.valid = true ∧ t.tmrKind = .hdrGuard ∧ t.tmrDeadline ≤ t.input.now ∧ t.rxActive = true ∧
      t.rxCount ≠ 0) := by decide

theorem witness_FrameDeadlineReleasesBus :
    let s := atTime 1280 { receiving with tmrKind := .rxDeadline, tmrDeadline := 1280, txPending := true }
    live s ∧ s.tmrKind = .rxDeadline ∧ s.tmrDeadline ≤ s.input.now ∧ s.rxActive = true ∧ s.txActive = false := by
  decide

/-- The four endings: a valid frame, a transport error, a short frame and a checksum mismatch, at the ends of the range of
`RX_COUNT`. -/
theorem witness_RxDoneCompletesReception :
    let s := atTime 1000 { receiving with rxSlot0 := slotOf frameV1, rxCount := 10 }
    let t := atTime 1000 receiving
    let u := atTime 1000 { receiving with rxCount := 259 }
    (live s ∧ s.par.valid = true ∧ s.rxActive = true ∧ s.rxCount ≤ s.par.rxSlotBytes ∧
      (validate s s.activeSlot s.rxCount).toOption = some .ok) ∧
    (live t ∧ t.par.valid = true ∧ t.rxActive = true ∧ t.rxCount ≤ t.par.rxSlotBytes ∧
      (validate t t.activeSlot t.rxCount).toOption = some .tooShort) ∧
    (live u ∧ u.par.valid = true ∧ u.rxActive = true ∧ u.rxCount ≤ u.par.rxSlotBytes ∧
      (validate u u.activeSlot u.rxCount).toOption = some .crcMismatch) := by decide +kernel

theorem witness_LateRxDoneIsIgnored : live (atTime 120 ready) ∧ ready.rxActive = false := by decide

/-- A completion, which swaps, and another event, which does not. -/
theorem witness_OnlyCompletionsSwapSlots :
    exec (.rxDone true) (atTime 1000 receiving) = .next (after (exec (.rxDone true) (atTime 1000 receiving))) ∧
    live (atTime 1000 receiving) ∧ receiving.rxActive = true ∧
    exec .packetReady (atTime 1000 receiving) = .next (after (exec .packetReady (atTime 1000 receiving))) :=
  ⟨next_of_ran (by decide), by decide, by decide, next_of_ran (by decide)⟩

theorem witness_SlotWritesStayInActiveSlot :
    let s := atTime 1000 { receiving with rxSlot1 := slotOf frameV1 }
    exec (.rxByte 5#8) s = .next (after (exec (.rxByte 5#8) s)) ∧
    exec .packetReady s = .next (after (exec .packetReady s)) ∧
    (∀ wh, Instr.packetReady ≠ .lineFall wh) ∧ (∀ b, Instr.packetReady ≠ .rxByte b) :=
  ⟨next_of_ran (by decide), next_of_ran (by decide), nofun, nofun⟩

/-- The next reception, its completion, which makes the kept slot active, and one more event. -/
theorem witness_CompletedSlotIsKept :
    let s := { ready with
      activeSlot := .s1
      rxSlot0 := slotOf frameV1
      pending := [ev 0x0012#16 5, ev 0x0014#16 6, ev 0x0006#16 7] }
    runSteps 3 s = .next (after (runSteps 3 s)) ∧
      (after (runSteps 3 s)).activeSlot = s.activeSlot.other ∧
      ∀ j v w, j < 3 → runSteps j s = .next v → step v = .next w → v.activeSlot = s.activeSlot.other →
        lineFallNext v → w.outcome ≠ .acted := by
  intro s
  refine ⟨next_of_ran (by decide), by decide, fun j v w hj hv _ ha hl => ?_⟩
  rcases (show j = 0 ∨ j = 1 ∨ j = 2 by omega) with rfl | rfl | rfl
  · exact absurd (eq_after hv ▸ ha) (by decide)
  · exact absurd (eq_after hv ▸ ha) (by decide)
  · obtain ⟨inp, rest, wh, hp, hd⟩ := hl
    rw [eq_after hv] at hp
    have hi : ev 0x0006#16 7 = inp := (List.cons.inj hp).1
    subst hi
    exact absurd hd (by revert wh; decide)

/-! ## Witnesses: the frame codec -/

/-- The three verdicts, at the ends of the range of the received count. -/
theorem witness_ValidateReportsExactlyOneVerdict :
    let s := { ready with rxSlot0 := slotOf frameV1 }
    s.par.valid = true ∧ 0 ≤ s.par.rxSlotBytes ∧ 259 ≤ s.par.rxSlotBytes ∧
      (validate s .s0 259).toOption = some .ok ∧ (validate s .s0 9).toOption = some .tooShort ∧
      (validate s .s1 259).toOption = some .crcMismatch := by decide +kernel

/-- A slot of four bytes whose size byte declares five, and the default parameters. -/
theorem witness_OversizeFrameNeverValidates :
    let s := { ready with par := smallPar, rxSlot0 := slotOf [0#8, 0#8, 1#8] }
    s.par.valid = true ∧ 4 ≤ s.par.rxSlotBytes ∧ (frameSize s .s0).toOption = some 5 ∧ s.par.rxSlotBytes < 5 ∧
      ready.par = Params.default ∧ 259 ≤ ready.par.rxSlotBytes := by decide

/-! ## Witnesses: the transmitter arbiter -/

theorem witness_TickSchedRearms :
    receiving.rxActive = true ∧
    (queued.rxActive = false ∧ queued.txPending = true ∧ queued.txActive = false ∧ queued.par.valid = true) ∧
    (ready.rxActive = false ∧ ready.txPending = false) ∧ (sending.rxActive = false ∧ sending.txActive = true) := by
  decide

theorem witness_ArbitrationDelayWindow :
    queued.par.valid = true ∧ queued.rxActive = false ∧ queued.txPending = true ∧ queued.txActive = false ∧
      queued.par = Params.default := by decide

theorem witness_PacketReadyArmsPulseOrRecords :
    (live (atTime 500 ready) ∧ ready.busy = false) ∧ (live (atTime 612 sending) ∧ sending.busy = true) ∧
      (live (atTime 1000 receiving) ∧ receiving.busy = true) ∧ (live (atTime 500 queued) ∧ queued.busy = true) := by
  decide

/-- At the deadline, with a frame pulled and with a frame held. -/
theorem witness_PulseStartsTransmission :
    let s := { queued with input := { ev 0x0005#16 610 with pull := some ⟨7, 10⟩ } }
    let t := atTime 610 { queued with txFrame := some ⟨7, 10⟩ }
    (live s ∧ s.tmrKind = .pulse ∧ s.tmrDeadline ≤ s.input.now ∧ s.rxActive = false ∧ s.txActive = false ∧
      s.input.start = .ok ∧ s.txFrame = none ∧ s.input.pull = some ⟨7, 10⟩) ∧
    (live t ∧ t.tmrKind = .pulse ∧ t.tmrDeadline ≤ t.input.now ∧ t.rxActive = false ∧ t.txActive = false ∧
      t.input.start = .ok ∧ t.txFrame = some ⟨7, 10⟩) := by decide

theorem witness_StartRaceKeepsFrame :
    let s := { queued with input := { ev 0x0005#16 610 with pull := some ⟨7, 10⟩, start := .fail } }
    let t := { s with txFrame := some ⟨7, 10⟩ }
    (live s ∧ s.tmrKind = .pulse ∧ s.tmrDeadline ≤ s.input.now ∧ s.rxActive = false ∧ s.txActive = false ∧
      s.input.start = .fail ∧ s.txFrame = none ∧ s.input.pull = some ⟨7, 10⟩) ∧
    (live t ∧ t.tmrKind = .pulse ∧ t.tmrDeadline ≤ t.input.now ∧ t.rxActive = false ∧ t.txActive = false ∧
      t.input.start = .fail ∧ t.txFrame = some ⟨7, 10⟩) := by decide

theorem witness_PulseWithoutFrameFinishes :
    let s := atTime 610 queued
    live s ∧ s.tmrKind = .pulse ∧ s.tmrDeadline ≤ s.input.now ∧ s.rxActive = false ∧ s.txActive = false ∧
      s.txFrame = none ∧ s.input.pull = none := by decide

/-- The three branches, the pulse's with either flag. -/
theorem witness_UnreachableCallbacksOnlyDisarm :
    let s := atTime 610 { queued with rxActive := true }
    let t := atTime 610 { queued with txActive := true }
    let u := atTime 1100 { receiving with rxActive := false }
    let v := { u with tmrKind := .rxDeadline }
    (live s ∧ s.tmrDeadline ≤ s.input.now ∧ s.tmrKind = .pulse ∧ s.rxActive = true) ∧
    (live t ∧ t.tmrDeadline ≤ t.input.now ∧ t.tmrKind = .pulse ∧ t.txActive = true) ∧
    (live u ∧ u.tmrDeadline ≤ u.input.now ∧ u.tmrKind = .hdrGuard ∧ u.rxActive = false) ∧
    (live v ∧ v.tmrDeadline ≤ v.input.now ∧ v.tmrKind = .rxDeadline ∧ v.rxActive = false) := by decide

theorem witness_TxDoneReleasesFrame :
    (live (atTime 900 sending) ∧ sending.txActive = true ∧ sending.txFrame = some ⟨7, 10⟩) ∧
    (live ready ∧ ready.txActive = false) := by decide

/-- A start, a completion, and a held frame that a step leaves held. -/
theorem witness_FrameAccounting :
    (let s := { queued with pending := [{ ev 0x0005#16 610 with pull := some ⟨7, 10⟩ }] }
     step s = .next (after (step s)) ∧ Action.appPull ∈ (after (step s)).out ∧
       Action.uartTxStart 7 10 ∈ (after (step s)).out) ∧
    (let s := { sending with pending := [ev 0x0007#16 900] }
     step s = .next (after (step s)) ∧ s.txFrame = some ⟨7, 10⟩ ∧
       Action.appFrameSent 7 ∈ (after (step s)).out) ∧
    (let s := { sending with pending := [ev 0x0012#16 900] }
     step s = .next (after (step s)) ∧ s.txFrame = some ⟨7, 10⟩) :=
  ⟨⟨next_of_ran (by decide), by decide, by decide⟩, ⟨next_of_ran (by decide), by decide, by decide⟩,
    next_of_ran (by decide), by decide⟩

/-- TX9 and TX10: the race, and a second start after the latest draw. -/
theorem witness_RacedFrameIsRetriedWithoutPull :
    let beat := ev 0x0005#16 10610
    let fire := ev 0x0005#16 10800
    let s := { ready with
      txPending := true, txFrame := some ⟨7, 10⟩, tmrDeadline := 10610, now := 610, pending := [beat, fire] }
    s.par.valid = true ∧ s.initialized = true ∧ s.halted = false ∧ s.rxActive = false ∧ s.txActive = false ∧
      s.txPending = true ∧ s.txFrame = some ⟨7, 10⟩ ∧ s.tmrKind = .heartbeat ∧ s.pending = beat :: fire :: [] ∧
      beat.word = encode .timerFire ∧ fire.word = encode .timerFire ∧ s.now ≤ beat.now ∧
      s.tmrDeadline ≤ beat.now ∧
      beat.now + s.par.arbNominalUs + s.par.arbJitterUs ≤ fire.now + s.par.wrOverheadUs := by decide

/-! ## Witnesses: the announce scheduler -/

/-- Never armed, just passed, and exactly at the deadline. -/
theorem witness_AnnounceCheckArmsOrAsks :
    ready.annDeadline = 0 ∧
    (let s := { ready with annDeadline := 509000, now := 509001 }
     s.annDeadline ≠ 0 ∧ s.annDeadline < s.now) ∧
    (let s := { ready with annDeadline := 509000, now := 509000 }
     s.annDeadline ≠ 0 ∧ s.now ≤ s.annDeadline) := by decide

theorem witness_ThrottleChecksOnceARound :
    ready.par.valid = true ∧ ready.annCnt = 0 ∧ ({ ready with annCnt := 254 }).annCnt + 1 < ready.par.annCntMod ∧
      ({ ready with annCnt := 255 }).annCnt + 1 = ready.par.annCntMod ∧ ({ ready with annCnt := 255 }).annCnt ≠ 0 := by
  decide

/-- With and without a request, and the three cases of the announce deadline. -/
theorem witness_HeartbeatChecksThenRearms :
    let s := atTime 10000 ready
    let t := atTime 509001 { ready with annDeadline := 509000, txPending := true }
    let u := atTime 509000 { ready with annDeadline := 509000 }
    (live s ∧ s.tmrKind = .heartbeat ∧ s.tmrDeadline ≤ s.input.now ∧ s.rxActive = false ∧ s.annDeadline = 0 ∧
      s.txPending = false) ∧
    (live t ∧ t.tmrKind = .heartbeat ∧ t.tmrDeadline ≤ t.input.now ∧ t.rxActive = false ∧ t.annDeadline ≠ 0 ∧
      t.annDeadline < t.input.now ∧ t.txPending = true ∧ t.txActive = false) ∧
    (live u ∧ u.tmrKind = .heartbeat ∧ u.tmrDeadline ≤ u.input.now ∧ u.rxActive = false ∧ u.annDeadline ≠ 0 ∧
      u.input.now ≤ u.annDeadline) := by decide

/-- A due heartbeat after the deadline, with a second one to follow. -/
def announcing : State :=
  { ready with annDeadline := 509000, pending := [ev 0x0005#16 519000, ev 0x0005#16 1018001] }

/-- A request, the first check from a deadline at 0, and a step that runs none. -/
theorem witness_NoAnnounceBeforeArmed :
    (step announcing = .next (after (step announcing)) ∧
      Action.appAnnounceReq ∈ (after (step announcing)).out ∧ announcing.annDeadline ≠ 0) ∧
    (let s := { ready with pending := [ev 0x0005#16 10000] }
     step s = .next (after (step s)) ∧ s.annDeadline = 0 ∧ announceCheckNext s ∧
       (after (step s)).annDeadline = 509000) ∧
    (let s := { ready with pending := [ev 0x0006#16 10000] }
     step s = .next (after (step s)) ∧ s.annDeadline = 0 ∧ (after (step s)).annDeadline = 0) :=
  ⟨⟨next_of_ran (by decide), by decide, by decide⟩,
    ⟨next_of_ran (by decide), by decide,
      ⟨by decide, by decide, ev 0x0005#16 10000, [], .timerFire, by decide, by decide, by decide,
        .inl (by decide)⟩, by decide⟩,
    next_of_ran (by decide), by decide, by decide⟩

/-- Two requests at the least distance that the draws allow. -/
theorem witness_AnnounceRequestsAreSpaced :
    let t := after (step announcing)
    let u := after (runSteps 0 t)
    let v := after (step u)
    step announcing = .next t ∧ announcing.annDeadline ≠ 0 ∧ t.annDeadline ≠ announcing.annDeadline ∧
      Action.appAnnounceReq ∈ t.out ∧ runSteps 0 t = .next u ∧ step u = .next v ∧
      Action.appAnnounceReq ∈ v.out ∧ v.now = t.now + t.par.annIntervalUs + 1 :=
  ⟨next_of_ran (by decide), by decide, by decide, by decide, rfl, next_of_ran (by decide), by decide, by decide⟩

/-! ## Witnesses: timer, registers and diagnostics -/

/-- Nothing armed, and one microsecond early. -/
theorem witness_EarlyTimerFireIsIgnored :
    (live { ready with tmrKind := .none } ∧ ({ ready with tmrKind := .none }).tmrKind = .none) ∧
    (live (atTime 9999 ready) ∧ (atTime 9999 ready).input.now < (atTime 9999 ready).tmrDeadline) := by decide

/-- Before INIT, after it, and while halted. -/
theorem witness_RegReadFollowsRegisterMap :
    (Instr.regRead 0x18#8).wf = true ∧ (Instr.regRead 0xFC#8).wf = true ∧
      State.reset.now ≤ State.reset.input.now ∧ (atTime 5 ready).now ≤ (atTime 5 ready).input.now ∧
      (atTime 150 stopped).now ≤ (atTime 150 stopped).input.now := by decide

theorem witness_MisalignedRegReadIsRefused : (0x01#8).extractLsb' 0 2 ≠ 0#2 ∧ (0xFF#8).extractLsb' 0 2 ≠ 0#2 := by
  decide

theorem witness_SnapshotIsConsistent :
    State.reset.now ≤ State.reset.input.now ∧ (atTime 150 stopped).now ≤ (atTime 150 stopped).input.now := by decide

/-- A read, an ignored event and a refused word, and a second read. -/
theorem witness_QueriesArePure :
    let first := ev 0x0008#16 5
    let again := ev 0x0008#16 7
    let s := { ready with pending := [first, ev 0x0001#16 6, ev 0x0000#16 6, again] }
    let t := after (step s)
    let u := after (runSteps 2 t)
    s.par.valid = true ∧ s.pending = first :: s.pending.tail ∧ first.word = encode (.regRead 0x00#8) ∧
      s.now ≤ first.now ∧ step s = .next t ∧ runSteps 2 t = .next u ∧
      (∀ j v, 1 ≤ j → j ≤ 2 → runSteps j t = .next v → actsNot v.outcome = true) ∧
      u.pending = again :: [] ∧ again.word = encode (.regRead 0x00#8) ∧ u.now ≤ again.now := by
  intro first again s t u
  refine ⟨by decide, by decide, by decide, by decide, next_of_ran (by decide), next_of_ran (by decide), ?_,
    by decide, by decide, by decide⟩
  intro j v h1 h2 hv
  rcases (show j = 1 ∨ j = 2 by omega) with rfl | rfl
  · exact eq_after hv ▸ (by decide)
  · exact eq_after hv ▸ (by decide)

theorem witness_BusStateIsNeverWritten :
    step { ready with busState := 7#32, pending := [ev 0x0408#16 5] } =
      .next (after (step { ready with busState := 7#32, pending := [ev 0x0408#16 5] })) := next_of_ran (by decide)

/-- A rejected frame with a counter at its largest value, a timeout, and a race. -/
theorem witness_CountersCountTheirCauses :
    (let s := { receiving with
        rxSlot0 := slotOf frameV1
        rxCount := 10
        packetsReceived := 0xFFFFFFFF#32
        pending := [{ ev 0x0004#16 1050 with accept := .rejected }] }
     step s = .next (after (step s)) ∧ (after (step s)).out.any isDispatch = true ∧
       (after (step s)).input.accept = .rejected) ∧
    (let s := { receiving with pending := [ev 0x0005#16 1100] }
     step s = .next (after (step s)) ∧ Action.faultNonFatal .rxTimeout ∈ (after (step s)).out) ∧
    (let s := { queued with txFrame := some ⟨7, 10⟩, pending := [{ ev 0x0005#16 610 with start := .fail }] }
     step s = .next (after (step s)) ∧ Action.faultNonFatal .txRace ∈ (after (step s)).out) :=
  ⟨⟨next_of_ran (by decide +kernel), by decide +kernel, by decide +kernel⟩, ⟨next_of_ran (by decide), by decide⟩,
    next_of_ran (by decide), by decide⟩

/-! ## Witnesses: faults and invariants -/

/-- Each of the fault codes is raised by some event. -/
theorem witness_FaultsByEvent :
    (let r := exec (.lineFall true) (atTime 1000 receiving)
     r = .next (after r) ∧ Action.faultFatal .rxReentry ∈ (after r).out) ∧
    (let r := exec (.lineFall false) (atTime 1000 ready)
     r = .next (after r) ∧ Action.faultNonFatal .rxTimeout ∈ (after r).out) ∧
    (let r := exec (.rxDone true) (atTime 1000 receiving)
     r = .next (after r) ∧ Action.faultNonFatal .rxUart ∈ (after r).out) ∧
    (let r := exec (.rxDone false) (atTime 1000 receiving)
     r = .next (after r) ∧ Action.faultNonFatal .rxShort ∈ (after r).out) ∧
    (let r := exec (.rxDone false) (atTime 1000 { receiving with rxCount := 4 })
     r = .next (after r) ∧ Action.faultNonFatal .rxCrc ∈ (after r).out) ∧
    (let r := exec .timerFire (atTime 1100 receiving)
     r = .next (after r) ∧ Action.faultNonFatal .rxTimeout ∈ (after r).out) ∧
    (let r := exec .timerFire { queued with
        txFrame := some ⟨7, 10⟩, input := { ev 0x0005#16 610 with start := .fail } }
     r = .next (after r) ∧ Action.faultNonFatal .txRace ∈ (after r).out) :=
  ⟨⟨next_of_ran (by decide), by decide⟩, ⟨next_of_ran (by decide), by decide⟩, ⟨next_of_ran (by decide), by decide⟩,
    ⟨next_of_ran (by decide), by decide⟩, ⟨next_of_ran (by decide +kernel), by decide +kernel⟩,
    ⟨next_of_ran (by decide), by decide⟩, next_of_ran (by decide), by decide⟩

theorem witness_AtMostOneFaultAStep :
    let s := { receiving with pending := [ev 0x0012#16 1050] }
    step s = .next (after (step s)) ∧ (after (step s)).out.any isFault = true :=
  ⟨next_of_ran (by decide), by decide⟩

theorem witness_ResetLeavesTableAndInvariant :
    smallPar.valid = true ∧ Params.default.valid = true := by decide

/-- States that meet the invariant: waiting, receiving, arbitrating, transmitting and halted. -/
theorem witness_StepKeepsInvariant :
    Inv ready ∧ Inv queued ∧ Inv sending ∧ Inv stopped ∧
    (let s := { receiving with rxSlot0 := slotOf frameV1, rxCount := 10, pending := [ev 0x0004#16 1050] }
     Inv s ∧ step s = .next (after (step s))) :=
  ⟨⟨by decide, by decide, by decide, by decide, by decide⟩,
    ⟨by decide, by decide, by decide, by decide, by decide⟩,
    ⟨by decide, by decide, by decide, by decide, by decide⟩,
    ⟨by decide, by decide, by decide, by decide, by decide⟩,
    ⟨by decide, by decide, by decide, by decide, by decide⟩,
    next_of_ran (by decide +kernel)⟩

/-- A state reached by an admitted event, and the end of a run with a refused word. -/
theorem witness_ReachedStatesMeetR56 :
    (let s := after (step (fromReset Params.default [ev 0x0001#16 0]))
     Reachable s ∧ s.initialized = true ∧ s.halted = false) ∧
    (let s := after (step (after (step (fromReset Params.default [ev 0x0001#16 0, ev 0x0000#16 0]))))
     RunEnd s ∧ s.initialized = true ∧ s.refusalMark = true) :=
  ⟨⟨.step (.reset Params.default [ev 0x0001#16 0] (by decide)) (next_of_ran (by decide)) (by decide),
      by decide, by decide⟩,
    .step (.step (.reset Params.default [ev 0x0001#16 0, ev 0x0000#16 0] (by decide)) (next_of_ran (by decide)))
      (next_of_ran (by decide)), by decide, by decide⟩

theorem witness_EveryStepMakesProgress : Inv { queued with pending := [ev 0x0005#16 610] } :=
  ⟨by decide, by decide, by decide, by decide, by decide⟩

theorem witness_TxPhasesPartition : Inv ready ∧ Inv queued ∧ Inv sending ∧ Inv { receiving with txPending := true } :=
  ⟨⟨by decide, by decide, by decide, by decide, by decide⟩,
    ⟨by decide, by decide, by decide, by decide, by decide⟩,
    ⟨by decide, by decide, by decide, by decide, by decide⟩,
    ⟨by decide, by decide, by decide, by decide, by decide⟩⟩

theorem witness_RxPhasesAndPulse :
    (Inv receiving ∧ receiving.initialized = true) ∧ (Inv queued ∧ queued.tmrKind = .pulse) :=
  ⟨⟨⟨by decide, by decide, by decide, by decide, by decide⟩, by decide⟩,
    ⟨by decide, by decide, by decide, by decide, by decide⟩, by decide⟩

end Sys2Proof.Tests
end

