-- ==== Sys2Proof/Proofs/Scope.lean ====
section
/-! The scope (00_scope.md): an admitted parameter set is never refused, because no event rule answers a refusal. -/

namespace Sys2Proof.Machine

theorem rxByte_ne_refused (b : Byte) (s : State) (r : Refusal) : rxByte b s ≠ .refused r := by
  unfold rxByte
  split
  · split
    · exact nofun
    · split <;> exact nofun
  · exact nofun

theorem finishReception_ne_refused (err : Bool) (ix : SlotIx) (n : Nat) (s : State) (r : Refusal) :
    finishReception err ix n s ≠ .refused r := by
  unfold finishReception
  split
  · exact nofun
  · split
    case h_4 => split <;> exact nofun
    all_goals exact nofun

theorem rxDone_ne_refused (err : Bool) (s : State) (r : Refusal) : rxDone err s ≠ .refused r := by
  unfold rxDone
  split
  · exact finishReception_ne_refused _ _ _ _ _
  · exact nofun

theorem hdrGuard_ne_refused (s : State) (r : Refusal) : hdrGuard s ≠ .refused r := by
  unfold hdrGuard
  split
  · split
    · exact nofun
    · split <;> exact nofun
  · exact nofun

theorem timerCallback_ne_refused (k : TimerKind) (s : State) (r : Refusal) : timerCallback k s ≠ .refused r := by
  cases k with
  | hdrGuard => exact hdrGuard_ne_refused s r
  | none | heartbeat | pulse | rxDeadline => exact nofun

theorem timerFire_ne_refused (s : State) (r : Refusal) : timerFire s ≠ .refused r := by
  unfold timerFire
  split
  · exact nofun
  · split
    · exact nofun
    · exact timerCallback_ne_refused _ _ _

theorem txDone_ne_refused (s : State) (r : Refusal) : txDone s ≠ .refused r := by
  unfold txDone
  split
  · split <;> exact nofun
  · exact nofun

/-- No rule of the table answers a refusal: each event is modelled. -/
theorem rule_ne_refused (i : Instr) (s : State) (r : Refusal) : rule i s ≠ .refused r := by
  cases i with
  | rxByte b => exact rxByte_ne_refused b s r
  | rxDone err => exact rxDone_ne_refused err s r
  | timerFire => exact timerFire_ne_refused s r
  | txDone code => exact txDone_ne_refused s r
  | init | lineFall | packetReady | regRead | diagSnapshot => exact nofun

/-- The prologue adds no refusal of its own (44_control.md R240): a time regression is a next state with the mark. -/
theorem runEvent_ne_refused (wh bi : Bool) (body : State → Result) (s : State) (r : Refusal)
    (hbody : ∀ t, body t ≠ .refused r) : runEvent wh bi body s ≠ .refused r := by
  rcases runEvent_cases s wh bi body with
    ⟨_, e⟩ | ⟨_, _, _, e⟩ | ⟨_, _, _, e⟩ | ⟨_, _, _, e⟩ | ⟨_, _, _, _, e⟩ <;> rw [e]
  case inr.inl => exact hbody _
  case inr.inr.inr.inl => exact hbody _
  all_goals exact nofun

theorem exec_ne_refused (i : Instr) (s : State) (r : Refusal) : exec i s ≠ .refused r := by
  by_cases hw : i.wf = true
  · rw [exec_eq_runEvent i s hw]
    exact runEvent_ne_refused _ _ _ _ _ fun t => rule_ne_refused i t r
  · cases i with
    | regRead a =>
      simp only [exec, execRegRead, if_neg hw]
      exact nofun
    | _ => exact absurd rfl hw

/-- The one refusal of a step, and when it is answered (log 6). -/
theorem step_eq_refused_iff (s : State) (r : Refusal) :
    step s = .refused r ↔ ¬ s.par.valid = true ∧ r = .invalidParameters := by
  unfold step
  split
  next hv =>
    simp only [hv, not_true_eq_false, false_and, iff_false]
    split
    · exact nofun
    · split
      · exact nofun
      · exact exec_ne_refused _ _ r
  next hv => simp [hv, eq_comm]

end Sys2Proof.Machine

namespace Sys2Proof.Proofs

open Sys2Proof.Machine

/-- Settles O10: the parameter check is the only refusal of a step, and it tests the six constraints of 00_scope.md R9. -/
theorem badParametersAreRejected : Obligations.BadParametersAreRejected := by
  intro s
  rw [step_eq_refused_iff, Params.valid_iff]
  exact and_iff_left rfl

end Sys2Proof.Proofs
end

section
/-! What one event can do, said once: it is passive, or its rule has one of the endings of `Effect`. Every statement
about all events or all steps is a case analysis over these endings. -/

namespace Sys2Proof.Machine

open Sys2Proof.Safety

/-- The rows of the table of IGNORED cases that a rule itself tests (44_control.md R246). -/
def ignores : Instr → State → Prop
  | .init, s => s.initialized = true
  | .lineFall _, s => s.rxActive = false ∧ s.txActive = true
  | .rxByte _, s => s.rxActive = false ∨ s.rxCount = s.par.rxSlotBytes
  | .rxDone _, s => s.rxActive = false
  | .timerFire, s => s.tmrKind = .none ∨ s.now < s.tmrDeadline
  | .txDone _, s => s.txActive = false
  | .packetReady, _ | .regRead _, _ | .diagSnapshot, _ => False

/-- The endings of the rules that are no reads, with the state each leaves. -/
inductive Effect : Instr → State → State → Prop
  /-- An IGNORED case (44_control.md R246). -/
  | ignored {i s} (h : ignores i s) : Effect i s s.ignored
  /-- The first INIT (44_control.md R241). -/
  | firstInit {s} (h : s.initialized = false) :
      Effect .init s (tickSched ({ s with initialized := true }.emit .uartInit))
  /-- A LINE_FALL while receiving (41_rx.md R140). -/
  | reentry {wh s} (hr : s.rxActive = true) : Effect (.lineFall wh) s (s.raiseFatal .rxReentry)
  /-- The start of a reception (41_rx.md R140). -/
  | arm {s} (hr : s.rxActive = false) (ha : s.txActive = false) :
      Effect (.lineFall true) s { zeroSlot s s.activeSlot with
        rxActive := true, rxCount := 0, tmrKind := .hdrGuard, tmrDeadline := s.now + s.par.hdrGuardUs,
        out := s.out ++ [.uartRxStart s.activeSlot s.par.rxSlotBytes] }
  /-- A line-high wait that failed: a reception that times out at once (41_rx.md R140). -/
  | failedWait {s} (hr : s.rxActive = false) (ha : s.txActive = false) :
      Effect (.lineFall false) s (rxTimedOut { zeroSlot s s.activeSlot with rxActive := true, rxCount := 0 })
  /-- A stored byte (41_rx.md R142). -/
  | store {b s} (hr : s.rxActive = true) (hc : s.rxCount < s.par.rxSlotBytes) :
      Effect (.rxByte b) s { s.setSlot s.activeSlot (writeCell (s.slot s.activeSlot) s.rxCount b) with
        rxCount := s.rxCount + 1 }
  /-- A completion that drops the frame (41_rx.md R147). -/
  | drop {err s c} (hr : s.rxActive = true) (hc : c = .rxUart ∨ c = .rxShort ∨ c = .rxCrc) :
      Effect (.rxDone err) s (rxError (completeReception s) c)
  /-- A completion that hands the frame over (41_rx.md R147). -/
  | dispatch {err s n} (hr : s.rxActive = true) :
      Effect (.rxDone err) s (handOff (completeReception s) s.activeSlot n)
  /-- A due heartbeat (43_announce.md R222). -/
  | heartbeat {s} (hk : s.tmrKind = .heartbeat) :
      Effect .timerFire s (heartbeat { s with tmrKind := .none })
  /-- A due pulse (42_tx.md R183). -/
  | pulse {s} (hk : s.tmrKind = .pulse) : Effect .timerFire s (arbPulse { s with tmrKind := .none })
  /-- A due receive timer with no reception, which 10_state.md R56 item 5 rules out (41_rx.md R144, R145). -/
  | stray {s} (hr : s.rxActive = false) (hk : s.tmrKind = .hdrGuard ∨ s.tmrKind = .rxDeadline) :
      Effect .timerFire s { s with tmrKind := .none }
  /-- A reception that timed out at either receive timer (41_rx.md R144 to R146). -/
  | timeout {s} (hr : s.rxActive = true)
      (hk : (s.tmrKind = .hdrGuard ∧ s.rxCount = 0) ∨ s.tmrKind = .rxDeadline) :
      Effect .timerFire s (rxTimedOut { s with tmrKind := .none })
  /-- The header guard with bytes received (41_rx.md R144). -/
  | guard {s} (hr : s.rxActive = true) (hk : s.tmrKind = .hdrGuard) (hc : s.rxCount ≠ 0) (deadline : Nat) :
      Effect .timerFire s (s.armTimer .rxDeadline deadline)
  /-- A transmit request (42_tx.md R184). -/
  | request {s} : Effect .packetReady s (packetReady s)
  /-- The end of a transmission (42_tx.md R185). -/
  | sent {code s f} (ha : s.txActive = true) (hf : s.txFrame = some f) :
      Effect (.txDone code) s (announceThrottle (tickSched { s with
        txFrame := none, txActive := false, out := s.out ++ [.appFrameSent f.handle] }))

theorem initRule_effect (s : State) : Effect .init s (initRule s) := by
  unfold initRule
  split
  next h => exact .ignored h
  next h => exact .firstInit (by simpa using h)

theorem armReception_true (s : State) : armReception true s = { zeroSlot s s.activeSlot with
    rxActive := true, rxCount := 0, tmrKind := .hdrGuard, tmrDeadline := s.now + s.par.hdrGuardUs,
    out := s.out ++ [.uartRxStart s.activeSlot s.par.rxSlotBytes] } := by
  cases ha : s.activeSlot <;>
    simp [armReception, zeroSlot, State.setSlot, State.slot, State.emit, State.armTimer, ha]

theorem armReception_false (s : State) : armReception false s =
    rxTimedOut { zeroSlot s s.activeSlot with rxActive := true, rxCount := 0 } := by
  cases ha : s.activeSlot <;> simp [armReception, zeroSlot, State.setSlot, State.slot, ha]

theorem armReception_effect (wh : Bool) {s : State} (hr : s.rxActive = false) (ha : s.txActive = false) :
    Effect (.lineFall wh) s (armReception wh s) := by
  cases wh
  · exact armReception_false s ▸ .failedWait hr ha
  · exact armReception_true s ▸ .arm hr ha

theorem lineFall_effect (wh : Bool) (s : State) : Effect (.lineFall wh) s (lineFall wh s) := by
  unfold lineFall
  split
  next hr => exact .reentry hr
  next hr =>
    split
    next ha => exact .ignored ⟨by simpa using hr, ha⟩
    next ha => exact armReception_effect wh (by simpa using hr) (by simpa using ha)

theorem rxByte_effect {b : Byte} {s t : State} (h : rxByte b s = .next t) : Effect (.rxByte b) s t := by
  rcases rxByte_cases s b t h with ⟨rfl, hi⟩ | ⟨hr, hc, rfl⟩
  · exact .ignored hi
  · exact .store hr hc

theorem rxDone_effect {err : Bool} {s t : State} (h : rxDone err s = .next t) : Effect (.rxDone err) s t := by
  rcases rxDone_cases s err t h with ⟨rfl, hr⟩ | ⟨hr, hf⟩
  · exact .ignored hr
  · rcases finishReception_cases _ err _ _ t hf with
      ⟨_, rfl⟩ | ⟨_, _, rfl⟩ | ⟨_, _, rfl⟩ | ⟨_, _, fs, _, rfl⟩
    · exact .drop hr (.inl rfl)
    · exact .drop hr (.inr (.inl rfl))
    · exact .drop hr (.inr (.inr rfl))
    · exact .dispatch hr

theorem rxDeadline_effect {s : State} (hk : s.tmrKind = .rxDeadline) :
    Effect .timerFire s (rxDeadline { s with tmrKind := .none }) := by
  unfold rxDeadline
  split
  next hr => exact .timeout hr (.inr hk)
  next hr => exact .stray (by simpa using hr) (.inr hk)

theorem hdrGuard_effect {s t : State} (hk : s.tmrKind = .hdrGuard)
    (h : hdrGuard { s with tmrKind := .none } = .next t) : Effect .timerFire s t := by
  rcases hdrGuard_cases _ t h with ⟨hr, rfl⟩ | ⟨hr, hc, rfl⟩ | ⟨hr, hc, fs, _, rfl⟩
  · exact .stray hr (.inl hk)
  · exact .timeout hr (.inl ⟨hk, hc⟩)
  · exact .guard (s := s) hr hk hc _

theorem timerFire_effect {s t : State} (h : timerFire s = .next t) : Effect .timerFire s t := by
  rcases timerFire_cases s t h with
    ⟨rfl, hi⟩ | ⟨_, ⟨hk, rfl⟩ | ⟨hk, rfl⟩ | ⟨hk, hg⟩ | ⟨hk, rfl⟩⟩
  · exact .ignored hi
  · exact .heartbeat hk
  · exact .pulse hk
  · exact hdrGuard_effect hk hg
  · exact rxDeadline_effect hk

theorem txDone_effect {code : BitVec 4} {s t : State} (h : txDone s = .next t) : Effect (.txDone code) s t := by
  rcases txDone_cases s t h with ⟨rfl, ha⟩ | ⟨ha, f, hf, rfl⟩
  · exact .ignored ha
  · exact .sent ha hf

/-- A rule that is no read ends as `Effect` lists. -/
theorem rule_effect {i : Instr} {s t : State} (hi : isRead i = false) (h : rule i s = .next t) : Effect i s t := by
  cases i with
  | init => cases h; exact initRule_effect s
  | lineFall wh => cases h; exact lineFall_effect wh s
  | rxByte b => exact rxByte_effect h
  | rxDone err => exact rxDone_effect h
  | timerFire => exact timerFire_effect h
  | packetReady => cases h; exact .request
  | txDone code => exact txDone_effect h
  | regRead | diagSnapshot => simp [isRead] at hi

/-- The states differ at most in `NOW` and in what is no field of the machine (44_control.md R240, R245): what a refused,
filtered or reading event, and a step without an event, leave. -/
structure Passive (s t : State) : Prop where
  same : t = { s with
    now := t.now, input := t.input, pending := t.pending, out := t.out, outcome := t.outcome,
    refusalMark := t.refusalMark }
  reads : ∀ a ∈ t.out, ∃ v, a = .readData v
  notFatal : ∀ c, t.outcome ≠ .fatal c
  mark : t.refusalMark = (s.refusalMark || !admitted t)

/-- A delivery writes none of the fields that `Passive` keeps (30_encoding.md R90). -/
theorem Passive.of_deliver {s t : State} {inp : Input} {rest : List Input} (h : Passive (s.deliver inp rest) t) :
    Passive s t :=
  ⟨h.same, h.reads, h.notFatal, h.mark⟩

theorem passive_waitIdle (s : State) : Passive s s.waitIdle :=
  ⟨rfl, nofun, nofun, by simp [admitted]⟩

theorem passive_markRefused (s : State) (r : RefuseReason) : Passive s (s.markRefused r) :=
  ⟨rfl, nofun, nofun, by simp [admitted]⟩

theorem passive_ignored (s : State) : Passive s s.begin.ignored :=
  ⟨rfl, nofun, nofun, by simp [admitted]⟩

theorem passive_latched_ignored (s : State) : Passive s s.begin.latchNow.ignored :=
  ⟨rfl, nofun, nofun, by simp [admitted]⟩

/-- A read writes nothing but the output list (44_control.md R243, R244). -/
theorem rule_read {i : Instr} {s t : State} (hi : isRead i = true) (h : rule i s = .next t) :
    ∃ vs : List RegWord, t = { s with out := s.out ++ vs.map .readData } := by
  cases i with
  | regRead a => cases h; exact ⟨[regValue s a], rfl⟩
  | diagSnapshot => cases h; exact ⟨snapshotAddrs.map (regValue s), by simp [diagSnapshot_eq]⟩
  | _ => simp [isRead] at hi

theorem passive_read {i : Instr} {s u t : State} (hi : isRead i = true) (h : rule i u = .next t)
    (hu : u = s.begin ∨ u = s.begin.latchNow) : Passive s t := by
  obtain ⟨vs, rfl⟩ := rule_read hi h
  rcases hu with rfl | rfl <;>
    exact ⟨rfl, by simp, nofun, by simp [admitted]⟩

/-- REG_READ of a misaligned address is the one event without an encoding (30_encoding.md R96). -/
theorem isRead_of_not_wf {i : Instr} (h : i.wf = false) : isRead i = true := by
  cases i with
  | regRead => rfl
  | _ => simp [Instr.wf] at h

theorem isRead_eq_false {i : Instr} (hd : i ≠ .diagSnapshot) (hr : ∀ a, i ≠ .regRead a) : isRead i = false := by
  cases i with
  | regRead a => exact absurd rfl (hr a)
  | diagSnapshot => exact absurd rfl hd
  | _ => rfl

theorem wf_of_not_read {i : Instr} (h : isRead i = false) : i.wf = true := by
  cases hw : i.wf
  · exact absurd (h.symm.trans (isRead_of_not_wf hw)) (by decide)
  · rfl

theorem eq_init_of_beforeInit {i : Instr} (hb : beforeInit i = true) (hr : isRead i = false) : i = .init := by
  cases i with
  | init => rfl
  | _ => exact absurd (hr.symm.trans hb) (by decide)

/-- One event is passive, which a live one is only as a read, or its rule acts on the state the prologue leaves. -/
theorem exec_passive_or_effect {i : Instr} {s t : State} (h : exec i s = .next t) :
    (Passive s t ∧ (live s → isRead i = true)) ∨
    (s.halted = false ∧ s.now ≤ s.input.now ∧ (s.initialized = true ∨ i = .init) ∧ Effect i (entry s) t) := by
  rcases exec_cases i s t h with
    ⟨r, rfl, hr⟩ | ⟨_, hh, hi, hx⟩ | ⟨_, hh, _, rfl⟩ | ⟨hn, hh, hi, hx⟩ | ⟨_, _, hi, _, rfl⟩
  · refine .inl ⟨passive_markRefused s r, fun ⟨_, _, hn⟩ => ?_⟩
    rcases hr with hr | hw
    · omega
    · exact isRead_of_not_wf hw
  · exact .inl ⟨passive_read hi hx (.inl rfl), fun _ => hi⟩
  · exact .inl ⟨passive_ignored s, fun ⟨_, hf, _⟩ => by simp [hh] at hf⟩
  · cases hr : isRead i
    · exact .inr ⟨hh, hn, hi.imp_right (eq_init_of_beforeInit · hr), rule_effect hr hx⟩
    · exact .inl ⟨passive_read hr hx (.inr rfl), fun _ => rfl⟩
  · exact .inl ⟨passive_latched_ignored s, fun ⟨hf, _, _⟩ => by simp [hi] at hf⟩

/-- One step is passive, or an event acts on the state that the prologue leaves of the delivered one. -/
theorem step_passive_or_effect {s t : State} (h : step s = .next t) :
    Passive s t ∨ ∃ inp rest i, s.pending = inp :: rest ∧ s.halted = false ∧ s.now ≤ inp.now ∧
      (s.initialized = true ∨ i = .init) ∧ Effect i (entry (s.deliver inp rest)) t := by
  obtain ⟨_, ⟨_, rfl⟩ | ⟨inp, rest, hp, ⟨r, _, rfl⟩ | ⟨i, _, hx⟩⟩⟩ := step_cases s t h
  · exact .inl (passive_waitIdle s)
  · exact .inl (passive_markRefused (s.deliver inp rest) r).of_deliver
  · rcases exec_passive_or_effect hx with ⟨hq, _⟩ | ⟨hh, hn, hi, he⟩
    · exact .inl hq.of_deliver
    · exact .inr ⟨inp, rest, i, hp, hh, hn, hi, he⟩

/-- While halted, every event but a read is ignored, and `NOW` is not latched (44_control.md R240). -/
theorem exec_halted {i : Instr} {s : State} (hr : isRead i = false) (hh : s.halted = true)
    (hn : s.now ≤ s.input.now) : exec i s = .next s.begin.ignored := by
  rw [exec_eq_runEvent i s (wf_of_not_read hr), runEvent, if_neg (Nat.not_lt.mpr hn)]
  simp [hh, hr]

/-- Before INIT, every event but INIT and a read is ignored, and `NOW` is latched (44_control.md R240). -/
theorem exec_before_init {i : Instr} {s : State} (hr : isRead i = false) (hi : i ≠ .init)
    (h0 : s.initialized = false) (hh : s.halted = false) (hn : s.now ≤ s.input.now) :
    exec i s = .next s.begin.latchNow.ignored := by
  have hb : beforeInit i = false := by
    cases hb : beforeInit i
    · rfl
    · exact absurd (eq_init_of_beforeInit hb hr) hi
  rw [exec_eq_runEvent i s (wf_of_not_read hr), runEvent, if_neg (Nat.not_lt.mpr hn)]
  simp [hh, h0, hb]

/-- While halted, no event writes a field of the machine but the refusal mark (10_state.md R46). -/
theorem exec_halted_frame {i : Instr} {s t : State} (h : exec i s = .next t) (hh : s.halted = true) :
    t = { s with out := t.out, outcome := t.outcome, refusalMark := t.refusalMark } := by
  rcases exec_cases i s t h with
    ⟨r, rfl, _⟩ | ⟨_, _, hi, hx⟩ | ⟨_, _, _, rfl⟩ | ⟨_, hf, _⟩ | ⟨_, hf, _⟩
  · rfl
  · obtain ⟨vs, rfl⟩ := rule_read hi hx
    rfl
  · rfl
  · exact absurd (hf.symm.trans hh) (by decide)
  · exact absurd (hf.symm.trans hh) (by decide)

end Sys2Proof.Machine
end

section
/-! What the endings of the rules leave unchanged, and what they do to the flags, the slots and the counters. -/

namespace Sys2Proof.Machine

open Sys2Proof.Safety

section

variable (s : State)

/-- A pulse writes the transmitter's fields, the timer, one counter and the outputs (42_tx.md R183). -/
theorem arbPulse_frame : arbPulse s = { s with
    txActive := (arbPulse s).txActive, txQueued := (arbPulse s).txQueued, txPending := (arbPulse s).txPending,
    txFrame := (arbPulse s).txFrame, busLoError := (arbPulse s).busLoError, tmrKind := (arbPulse s).tmrKind,
    tmrDeadline := (arbPulse s).tmrDeadline, out := (arbPulse s).out } := by
  rcases arbPulse_cases s with
    ⟨_, e⟩ | ⟨_, _, _, _, e⟩ | ⟨_, _, f, pulls, _, ⟨_, e⟩ | ⟨_, e⟩⟩ <;> rw [e]

@[simp] theorem arbPulse_par : (arbPulse s).par = s.par := by rw [arbPulse_frame]
@[simp] theorem arbPulse_rxActive : (arbPulse s).rxActive = s.rxActive := by rw [arbPulse_frame]
@[simp] theorem arbPulse_rxSlot0 : (arbPulse s).rxSlot0 = s.rxSlot0 := by rw [arbPulse_frame]
@[simp] theorem arbPulse_rxSlot1 : (arbPulse s).rxSlot1 = s.rxSlot1 := by rw [arbPulse_frame]
@[simp] theorem arbPulse_activeSlot : (arbPulse s).activeSlot = s.activeSlot := by rw [arbPulse_frame]
@[simp] theorem arbPulse_rxCount : (arbPulse s).rxCount = s.rxCount := by rw [arbPulse_frame]
@[simp] theorem arbPulse_annDeadline : (arbPulse s).annDeadline = s.annDeadline := by rw [arbPulse_frame]
@[simp] theorem arbPulse_annCnt : (arbPulse s).annCnt = s.annCnt := by rw [arbPulse_frame]
@[simp] theorem arbPulse_packetsReceived : (arbPulse s).packetsReceived = s.packetsReceived := by rw [arbPulse_frame]
@[simp] theorem arbPulse_packetsDropped : (arbPulse s).packetsDropped = s.packetsDropped := by rw [arbPulse_frame]
@[simp] theorem arbPulse_busTimeoutError : (arbPulse s).busTimeoutError = s.busTimeoutError := by rw [arbPulse_frame]
@[simp] theorem arbPulse_busUartError : (arbPulse s).busUartError = s.busUartError := by rw [arbPulse_frame]
@[simp] theorem arbPulse_busState : (arbPulse s).busState = s.busState := by rw [arbPulse_frame]
@[simp] theorem arbPulse_initialized : (arbPulse s).initialized = s.initialized := by rw [arbPulse_frame]
@[simp] theorem arbPulse_halted : (arbPulse s).halted = s.halted := by rw [arbPulse_frame]
@[simp] theorem arbPulse_now : (arbPulse s).now = s.now := by rw [arbPulse_frame]
@[simp] theorem arbPulse_refusalMark : (arbPulse s).refusalMark = s.refusalMark := by rw [arbPulse_frame]
@[simp] theorem arbPulse_input : (arbPulse s).input = s.input := by rw [arbPulse_frame]
@[simp] theorem arbPulse_pending : (arbPulse s).pending = s.pending := by rw [arbPulse_frame]
@[simp] theorem arbPulse_outcome : (arbPulse s).outcome = s.outcome := by rw [arbPulse_frame]

/-- PACKET_READY writes two flags of the transmitter and the timer (42_tx.md R184). -/
theorem packetReady_frame : packetReady s = { s with
    txQueued := (packetReady s).txQueued, txPending := (packetReady s).txPending,
    tmrKind := (packetReady s).tmrKind, tmrDeadline := (packetReady s).tmrDeadline } := by
  rcases packetReady_cases s with ⟨_, _, _, e⟩ | ⟨_, e⟩ <;> rw [e]

@[simp] theorem packetReady_par : (packetReady s).par = s.par := by rw [packetReady_frame]
@[simp] theorem packetReady_rxActive : (packetReady s).rxActive = s.rxActive := by rw [packetReady_frame]
@[simp] theorem packetReady_txActive : (packetReady s).txActive = s.txActive := by rw [packetReady_frame]
@[simp] theorem packetReady_txFrame : (packetReady s).txFrame = s.txFrame := by rw [packetReady_frame]
@[simp] theorem packetReady_rxSlot0 : (packetReady s).rxSlot0 = s.rxSlot0 := by rw [packetReady_frame]
@[simp] theorem packetReady_rxSlot1 : (packetReady s).rxSlot1 = s.rxSlot1 := by rw [packetReady_frame]
@[simp] theorem packetReady_activeSlot : (packetReady s).activeSlot = s.activeSlot := by rw [packetReady_frame]
@[simp] theorem packetReady_rxCount : (packetReady s).rxCount = s.rxCount := by rw [packetReady_frame]
@[simp] theorem packetReady_annDeadline : (packetReady s).annDeadline = s.annDeadline := by rw [packetReady_frame]
@[simp] theorem packetReady_annCnt : (packetReady s).annCnt = s.annCnt := by rw [packetReady_frame]
@[simp] theorem packetReady_packetsReceived : (packetReady s).packetsReceived = s.packetsReceived := by
  rw [packetReady_frame]
@[simp] theorem packetReady_packetsDropped : (packetReady s).packetsDropped = s.packetsDropped := by
  rw [packetReady_frame]
@[simp] theorem packetReady_busLoError : (packetReady s).busLoError = s.busLoError := by rw [packetReady_frame]
@[simp] theorem packetReady_busTimeoutError : (packetReady s).busTimeoutError = s.busTimeoutError := by
  rw [packetReady_frame]
@[simp] theorem packetReady_busUartError : (packetReady s).busUartError = s.busUartError := by rw [packetReady_frame]
@[simp] theorem packetReady_busState : (packetReady s).busState = s.busState := by rw [packetReady_frame]
@[simp] theorem packetReady_initialized : (packetReady s).initialized = s.initialized := by rw [packetReady_frame]
@[simp] theorem packetReady_halted : (packetReady s).halted = s.halted := by rw [packetReady_frame]
@[simp] theorem packetReady_now : (packetReady s).now = s.now := by rw [packetReady_frame]
@[simp] theorem packetReady_refusalMark : (packetReady s).refusalMark = s.refusalMark := by rw [packetReady_frame]
@[simp] theorem packetReady_input : (packetReady s).input = s.input := by rw [packetReady_frame]
@[simp] theorem packetReady_pending : (packetReady s).pending = s.pending := by rw [packetReady_frame]
@[simp] theorem packetReady_out : (packetReady s).out = s.out := by rw [packetReady_frame]
@[simp] theorem packetReady_outcome : (packetReady s).outcome = s.outcome := by rw [packetReady_frame]

/-- Zeroing a slot leaves the other one alone (41_rx.md R140). -/
theorem zeroSlot_slot (ix jx : SlotIx) : (zeroSlot s ix).slot jx = s.slot jx ∨
    (jx = ix ∧ (zeroSlot s ix).slot jx = clearBelow (s.slot jx) s.par.rxSlotBytes) := by
  by_cases hx : jx = ix
  · subst hx
    exact .inr ⟨rfl, State.setSlot_slot_same s _ _⟩
  · exact .inl (State.setSlot_slot_other s _ jx _ hx)

@[simp] theorem rxTimedOut_slot (ix : SlotIx) : (rxTimedOut s).slot ix = s.slot ix := by
  cases ix <;> simp [State.slot]

/-- The announce check adds at most one request to the outputs (43_announce.md R220). -/
theorem checkAnnounce_out :
    (checkAnnounce s).out = s.out ∨ (checkAnnounce s).out = s.out ++ [.appAnnounceReq] := by
  rcases checkAnnounce_cases s with ⟨_, e⟩ | ⟨_, _, e⟩ | ⟨_, _, e⟩ <;> simp [e]

theorem announceThrottle_out :
    (announceThrottle s).out = s.out ∨ (announceThrottle s).out = s.out ++ [.appAnnounceReq] := by
  rw [announceThrottle_eq]
  split
  · exact checkAnnounce_out _
  · exact .inl rfl

theorem heartbeat_out : (heartbeat s).out = s.out ∨ (heartbeat s).out = s.out ++ [.appAnnounceReq] := by
  simpa [heartbeat] using checkAnnounce_out s

theorem completeReception_out :
    (completeReception s).out = s.out ∨ (completeReception s).out = s.out ++ [.appAnnounceReq] := by
  simpa [completeReception] using announceThrottle_out (tickSched
    { s with activeSlot := s.activeSlot.other, rxCount := 0, rxActive := false })

end

namespace Effect

variable {i : Instr} {s t : State}

/-- No rule writes the parameters, `BUS_STATE`, the time, the inputs or the refusal mark. -/
theorem unwritten (h : Effect i s t) : t.par = s.par ∧ t.busState = s.busState ∧ t.now = s.now ∧
    t.input = s.input ∧ t.pending = s.pending ∧ t.refusalMark = s.refusalMark := by
  cases h <;> simp

/-- After INIT, and after any rule that runs after it, `INITIALIZED` is set (10_state.md R45). -/
theorem initialized (h : Effect i s t) (hi : s.initialized = true ∨ i = .init) : t.initialized = true := by
  cases h with
  | ignored hg =>
    rcases hi with hi | rfl
    · exact hi
    · exact hg
  | firstInit => simp
  | _ => simpa using hi

/-- A rule keeps `HALTED` and leaves the outcome or makes it IGNORED, unless it raises the one fatal fault (60_exceptions.md
R264). -/
theorem halted_outcome (h : Effect i s t) :
    (t.halted = s.halted ∧ (t.outcome = .ignored ∨ t.outcome = s.outcome)) ∨
      (t.halted = true ∧ t.outcome = .fatal .rxReentry) := by
  cases h with
  | reentry => exact .inr ⟨rfl, rfl⟩
  | _ => simp

/-- Only an RX_DONE that ends a reception toggles `ACTIVE_SLOT` (10_state.md R38; 41_rx.md R149). -/
theorem activeSlot (h : Effect i s t) : t.activeSlot =
    if (∃ e, i = .rxDone e) ∧ s.rxActive = true then s.activeSlot.other else s.activeSlot := by
  cases h with
  | ignored hg =>
    refine (if_neg ?_).symm
    rintro ⟨⟨e, rfl⟩, hr⟩
    exact absurd (hr.symm.trans hg) (by decide)
  | drop hr | dispatch hr => simp [hr]
  | _ => simp

/-- What a rule does to the memory of a slot: LINE_FALL zeroes the active one, and RX_BYTE writes one byte of it
(10_state.md R37; 20_memory.md R70). -/
theorem slot (h : Effect i s t) (ix : SlotIx) : t.slot ix = s.slot ix ∨
    (ix = s.activeSlot ∧
      (((∃ wh, i = .lineFall wh) ∧ t.slot ix = clearBelow (s.slot ix) s.par.rxSlotBytes) ∨
        (∃ b, i = .rxByte b ∧ s.rxCount < s.par.rxSlotBytes ∧ t.slot ix = writeCell (s.slot ix) s.rxCount b))) := by
  cases h with
  | arm =>
    exact (zeroSlot_slot s s.activeSlot ix).imp_right fun ⟨hx, e⟩ => ⟨hx, .inl ⟨⟨_, rfl⟩, e⟩⟩
  | failedWait =>
    rw [rxTimedOut_slot]
    exact (zeroSlot_slot s s.activeSlot ix).imp_right fun ⟨hx, e⟩ => ⟨hx, .inl ⟨⟨_, rfl⟩, e⟩⟩
  | store _ hc =>
    by_cases hx : ix = s.activeSlot
    · subst hx
      exact .inr ⟨rfl, .inr ⟨_, rfl, hc, State.setSlot_slot_same s _ _⟩⟩
    · exact .inl (State.setSlot_slot_other s _ ix _ hx)
  | _ => left; cases ix <;> simp [State.slot]

/-- `ANN_CNT` goes up by 1 modulo `ANN_CNT_MOD` or keeps its value (10_state.md R41). -/
theorem annCnt (h : Effect i s t) : t.annCnt = s.annCnt ∨ t.annCnt = (s.annCnt + 1) % s.par.annCntMod := by
  cases h <;> simp

end Effect

/-- Each diagnostics counter goes up by 1 exactly when its cause is in the output list (10_state.md R42; 60_exceptions.md
R261). -/
def CountsItsCauses (s t : State) : Prop :=
  t.busTimeoutError = (if .faultNonFatal .rxTimeout ∈ t.out
    then bumpCounter s.par.cntW s.busTimeoutError else s.busTimeoutError) ∧
  t.busUartError = (if .faultNonFatal .rxUart ∈ t.out ∨ .faultNonFatal .rxShort ∈ t.out ∨
      .faultNonFatal .rxCrc ∈ t.out
    then bumpCounter s.par.cntW s.busUartError else s.busUartError) ∧
  t.busLoError = (if .faultNonFatal .txRace ∈ t.out
    then bumpCounter s.par.cntW s.busLoError else s.busLoError) ∧
  t.packetsReceived = (if t.out.any isDispatch = true
    then bumpCounter s.par.cntW s.packetsReceived else s.packetsReceived) ∧
  t.packetsDropped = (if t.out.any isDispatch = true ∧ t.input.accept = .rejected
    then bumpCounter s.par.cntW s.packetsDropped else s.packetsDropped)

/-- Every rule counts the causes in its output list, and nothing else. -/
theorem Effect.countsItsCauses {i : Instr} {s t : State} (h : Effect i s t) (ho : s.out = []) :
    CountsItsCauses s t := by
  cases h with
  | drop _ hc =>
    rcases hc with rfl | rfl | rfl <;> rcases completeReception_out s with e | e <;>
      simp [CountsItsCauses, isDispatch, ho, e]
  | dispatch =>
    rcases completeReception_out s with e | e <;>
      simp [CountsItsCauses, isDispatch, ho, e, handOff_packetsDropped]
  | heartbeat =>
    rcases heartbeat_out { s with tmrKind := .none } with e | e <;> rw [CountsItsCauses, e] <;>
      simp [isDispatch, ho]
  | pulse =>
    rcases arbPulse_cases { s with tmrKind := .none } with
      ⟨_, e⟩ | ⟨_, _, _, _, e⟩ | ⟨_, _, f, pulls, ⟨_, rfl⟩ | ⟨_, _, rfl⟩, ⟨_, e⟩ | ⟨_, e⟩⟩ <;>
      rw [e] <;> simp [CountsItsCauses, isDispatch, ho]
  | sent =>
    rcases announceThrottle_out (tickSched { s with
        txFrame := none, txActive := false, out := s.out ++ [.appFrameSent _] }) with e | e <;>
      rw [CountsItsCauses, e] <;> simp [isDispatch, ho]
  | _ => simp [CountsItsCauses, ho, isDispatch]

section

variable {s t : State}

theorem Passive.halted (h : Passive s t) : t.halted = s.halted := by rw [h.same]

theorem Passive.initialized (h : Passive s t) : t.initialized = s.initialized := by rw [h.same]

theorem Passive.activeSlot (h : Passive s t) : t.activeSlot = s.activeSlot := by rw [h.same]

theorem Passive.busState (h : Passive s t) : t.busState = s.busState := by rw [h.same]

theorem Passive.slot (h : Passive s t) (ix : SlotIx) : t.slot ix = s.slot ix := by
  rw [h.same]; cases ix <;> rfl

/-- A passive event emits reads at most, which are no cause, and counts nothing. -/
theorem Passive.countsItsCauses (h : Passive s t) : CountsItsCauses s t := by
  have noFault (c : NonFatalCode) : .faultNonFatal c ∉ t.out := fun hm => by
    obtain ⟨v, hv⟩ := h.reads _ hm
    cases hv
  have noDispatch : t.out.any isDispatch = false := List.any_eq_false.mpr fun a ha => by
    obtain ⟨v, rfl⟩ := h.reads a ha
    exact nofun
  simp only [CountsItsCauses, noFault, noDispatch, Bool.false_eq_true, false_and, or_self, if_false]
  rw [h.same]
  exact ⟨rfl, rfl, rfl, rfl, rfl⟩

end

end Sys2Proof.Machine
end

section
/-! The invariant between steps (10_state.md R56): each part is kept by every ending of a rule. -/

namespace Sys2Proof.Machine

open Sys2Proof.Safety

/-- Outside a reception, `TickSched` sets up the timer and `TX_QUEUED` as items 5 to 8 of 10_state.md R56 ask, from any
timer state: what is left are the items about the held frame and the byte count. -/
theorem tickSched_betweenSteps {s : State} (hr : s.rxActive = false) (hc : s.rxCount = 0)
    (hf : s.txActive = true → s.txFrame ≠ none)
    (hp : s.txFrame ≠ none → s.txActive = false → s.txPending = true) : betweenSteps (tickSched s) := by
  rcases tickSched_cases s with ⟨h, _⟩ | ⟨_, hq, ha, e⟩ | ⟨_, hq, e⟩
  · exact absurd (hr.symm.trans h) (by decide)
  · simp [e, betweenSteps, hr, hc, hq, ha]
  · simpa [e, betweenSteps, hr, hc] using And.intro hf hp

/-- The items of 10_state.md R56 do not read what an announce check writes (43_announce.md R220, R221). -/
theorem announceThrottle_betweenSteps {s : State} (h : betweenSteps s) : betweenSteps (announceThrottle s) := by
  simpa [betweenSteps] using h

theorem completeReception_betweenSteps {s : State} (h : betweenSteps s) : betweenSteps (completeReception s) := by
  obtain ⟨_, _, hheld, hraced, _⟩ := h
  exact announceThrottle_betweenSteps (tickSched_betweenSteps rfl rfl hheld hraced)

theorem rxTimedOut_betweenSteps {s : State} (hf : s.txActive = true → s.txFrame ≠ none)
    (hp : s.txFrame ≠ none → s.txActive = false → s.txPending = true) : betweenSteps (rxTimedOut s) :=
  tickSched_betweenSteps rfl rfl (by simpa using hf) (by simpa using hp)

/-- Outside a reception the timer is no receive timer, and no byte is counted (10_state.md R56 items 5 and 9). -/
theorem heartbeat_betweenSteps {s : State} (h : betweenSteps s) (hk : s.tmrKind = .heartbeat) :
    betweenSteps (heartbeat { s with tmrKind := .none }) := by
  obtain ⟨_, _, hheld, hraced, hrx, _, _, _, _, hcount⟩ := h
  have hr : s.rxActive = false := by simpa [hk] using hrx
  exact tickSched_betweenSteps (by simpa using hr) (by simpa using hcount hr) (by simpa using hheld)
    (by simpa using hraced)

/-- Whatever a pulse finds, it leaves the heartbeat armed and no transmission scheduled (42_tx.md R183). -/
theorem arbPulse_betweenSteps {s : State} (h : betweenSteps s) (hk : s.tmrKind = .pulse) :
    betweenSteps (arbPulse { s with tmrKind := .none }) := by
  obtain ⟨_, _, _, _, _, _, _, hpulse, _, hcount⟩ := h
  obtain ⟨hr, ha, hp⟩ := hpulse hk
  rcases arbPulse_cases { s with tmrKind := .none } with
    ⟨hb, _⟩ | ⟨_, _, hf, _, e⟩ | ⟨_, _, f, pulls, _, ⟨_, e⟩ | ⟨_, e⟩⟩
  · simp [hr, ha] at hb
  · rw [e]; simp [betweenSteps, hr, ha, show s.txFrame = none from hf, hcount hr]
  · rw [e]; simp [betweenSteps, hr, hcount hr]
  · rw [e]; simp [betweenSteps, hr, ha, hcount hr]

/-- On a busy bus PACKET_READY only records the request; with neither direction active the bus is busy because the pulse
is armed already (42_tx.md R184). -/
theorem packetReady_betweenSteps {s : State} (h : betweenSteps s) : betweenSteps (packetReady s) := by
  obtain ⟨hxor, _, hheld, hraced, hrx, hidle, hqueued, hpulse, hcount⟩ := h
  rcases packetReady_cases s with ⟨hr, ha, _, e⟩ | ⟨hb, e⟩
  · rw [e]
    simpa [betweenSteps, hr, ha] using hcount
  · rw [e]
    refine ⟨hxor, fun _ => rfl, hheld, fun _ _ => rfl, hrx, hidle,
      fun (hr : s.rxActive = false) (ha : s.txActive = false) => ?_, fun hk => ?_, hcount⟩
    · exact iff_of_true rfl ((hqueued hr ha).mp (by simpa [hr, ha] using hb))
    · obtain ⟨hr, ha, _⟩ := hpulse hk
      exact ⟨hr, ha, rfl⟩

/-- What the items of 10_state.md R56 ask during a reception: a receive timer is armed and nothing is sent. -/
theorem betweenSteps_of_receiving {s : State} (hr : s.rxActive = true) (ha : s.txActive = false)
    (hk : s.tmrKind = .hdrGuard ∨ s.tmrKind = .rxDeadline) (hq : s.txQueued = true → s.txPending = true)
    (hf : s.txFrame ≠ none → s.txPending = true) (hc : s.rxCount ≤ s.par.rxSlotBytes) : betweenSteps s := by
  have hp : s.tmrKind ≠ .pulse := by rcases hk with hk | hk <;> simp [hk]
  simpa [betweenSteps, hr, ha, hk, hp, hc] using And.intro hq hf

/-- INIT sets up the items of 10_state.md R56 from the quiet state before it (44_control.md R241). -/
theorem Effect.betweenSteps_of_quiet {s t : State} (h : Effect .init s t) (hi : s.initialized = false)
    (hs : quietBeforeInit s) : betweenSteps t := by
  obtain ⟨hr, ha, hq, hp, hf, hc, hk, _⟩ := hs
  cases h with
  | ignored hg => exact absurd (hi.symm.trans hg) (by decide)
  | firstInit => exact tickSched_betweenSteps hr hc (by simp [ha]) (by simp [hf])

/-- Every rule that runs after INIT keeps the nine items of 10_state.md R56. -/
theorem Effect.betweenSteps {i : Instr} {s t : State} (h : Effect i s t) (hi : s.initialized = true)
    (hs : betweenSteps s) : betweenSteps t := by
  obtain ⟨hxor, hq, hheld, hraced, hrx, _, _, _, hle, hcount⟩ := id hs
  have silent (hr : s.rxActive = true) : s.txActive = false := by simpa [hr] using hxor
  cases h with
  | ignored | reentry => exact hs
  | firstInit h0 => exact absurd (h0.symm.trans hi) (by decide)
  | arm hr ha =>
    exact betweenSteps_of_receiving rfl (by simpa using ha) (.inl rfl) (by simpa using hq)
      (by simpa [ha] using hraced) (Nat.zero_le _)
  | failedWait => exact rxTimedOut_betweenSteps (by simpa using hheld) (by simpa using hraced)
  | store hr hc =>
    exact betweenSteps_of_receiving (by simpa using hr) (by simpa using silent hr) (by simpa using hrx.mp hr)
      (by simpa using hq) (by simpa [silent hr] using hraced) (by simpa using hc)
  | drop | dispatch => simpa [Safety.betweenSteps] using completeReception_betweenSteps hs
  | heartbeat hk => exact heartbeat_betweenSteps hs hk
  | pulse hk => exact arbPulse_betweenSteps hs hk
  | stray hr hk => exact absurd (hr.symm.trans (hrx.mpr hk)) (by decide)
  | timeout => exact rxTimedOut_betweenSteps hheld hraced
  | guard hr => exact betweenSteps_of_receiving hr (silent hr) (.inr rfl) hq (fun hf => hraced hf (silent hr)) hle
  | request => exact packetReady_betweenSteps hs
  | sent ha =>
    have hr : s.rxActive = false := by simpa [ha] using hxor
    exact announceThrottle_betweenSteps
      (tickSched_betweenSteps hr (hcount hr) nofun fun hf => absurd rfl hf)

theorem slotsOk_iff (s : State) :
    slotsOk s ↔ ∀ ix, Memory.wf (s.slot ix) ∧ Memory.within (s.slot ix) s.par.rxSlotBytes :=
  ⟨fun ⟨h0, h1⟩ ix => by cases ix <;> assumption, fun h => ⟨h .s0, h .s1⟩⟩

/-- Both slots keep the canonical form and their bounds (20_memory.md R70). -/
theorem Effect.slotsOk {i : Instr} {s t : State} (h : Effect i s t) (hs : slotsOk s) : slotsOk t := by
  obtain ⟨hpar, _⟩ := h.unwritten
  rw [slotsOk_iff] at hs ⊢
  intro ix
  obtain ⟨hwf, hin⟩ := hs ix
  rw [hpar]
  rcases h.slot ix with e | ⟨_, ⟨_, e⟩ | ⟨b, _, hc, e⟩⟩ <;> rw [e]
  · exact ⟨hwf, hin⟩
  · exact ⟨clearBelow_wf _ _ hwf, clearBelow_within _ _ _ hin⟩
  · exact ⟨writeCell_wf _ _ _ hwf, writeCell_within _ _ _ _ hin hc⟩

/-- A counter that is counted or kept fits its width (10_state.md R42). -/
theorem ite_bumpCounter_lt {w : Nat} {c : RegWord} (p : Prop) [Decidable p] (h : c.toNat < 2 ^ w) :
    (if p then bumpCounter w c else c).toNat < 2 ^ w := by
  split
  · exact bumpCounter_lt w c
  · exact h

/-- The counters keep their width, and `ANN_CNT` stays below its modulus (10_state.md R41, R42). -/
theorem Effect.countersOk {i : Instr} {s t : State} (h : Effect i s t) (ho : s.out = [])
    (hv : s.par.valid = true) (hs : countersOk s) : countersOk t := by
  obtain ⟨hpar, _⟩ := h.unwritten
  obtain ⟨_, _, _, _, hmod, _⟩ := (Params.valid_iff _).mp hv
  obtain ⟨hreceived, hdropped, hlo, htimeout, huart, hann⟩ := hs
  obtain ⟨etimeout, euart, elo, ereceived, edropped⟩ := h.countsItsCauses ho
  rw [Safety.countersOk, hpar, etimeout, euart, elo, ereceived, edropped]
  refine ⟨ite_bumpCounter_lt _ hreceived, ite_bumpCounter_lt _ hdropped, ite_bumpCounter_lt _ hlo,
    ite_bumpCounter_lt _ htimeout, ite_bumpCounter_lt _ huart, ?_⟩
  rcases h.annCnt with e | e <;> rw [e]
  · exact hann
  · exact Nat.mod_lt _ hmod

/-- A rule that runs keeps the invariant. -/
theorem Effect.inv {i : Instr} {s t : State} (h : Effect i s t) (hi : s.initialized = true ∨ i = .init)
    (ho : s.out = []) (hs : Inv s) : Inv t := by
  obtain ⟨hv, hslots, hcounters, hquiet, hbetween⟩ := hs
  obtain ⟨hpar, _⟩ := h.unwritten
  have hinit := h.initialized hi
  refine ⟨hpar ▸ hv, h.slotsOk hslots, h.countersOk ho hv hcounters,
    fun h0 => absurd (h0.symm.trans hinit) (by decide), fun _ => ?_⟩
  cases h0 : s.initialized
  · obtain rfl : i = .init := hi.resolve_left (by simp [h0])
    exact h.betweenSteps_of_quiet h0 (hquiet h0)
  · exact h.betweenSteps h0 (hbetween h0)

/-- The invariant reads nothing that a passive event can change. -/
theorem Passive.inv {s t : State} (h : Passive s t) (hs : Inv s) : Inv t :=
  (congrArg Safety.Inv h.same).mpr hs

/-- A delivery and the prologue that lets the event through change nothing but `NOW`. -/
theorem passive_entry_deliver (s : State) (inp : Input) (rest : List Input) :
    Passive s (entry (s.deliver inp rest)) :=
  ⟨rfl, nofun, nofun, by simp [entry, admitted]⟩

theorem step_inv {s t : State} (hs : Inv s) (h : step s = .next t) : Inv t := by
  rcases step_passive_or_effect h with hp | ⟨inp, rest, i, _, _, _, hi, he⟩
  · exact hp.inv hs
  · exact he.inv hi rfl ((passive_entry_deliver s inp rest).inv hs)

/-- The invariant holds after reset, with any admitted parameters (70_reset_and_hazards.md R290). -/
theorem fromReset_inv {p : Params} (es : List Input) (h : p.valid = true) : Inv (fromReset p es) := by
  obtain ⟨_, _, _, _, hmod, _⟩ := (Params.valid_iff p).mp h
  have hpow : 0 < 2 ^ p.cntW := by positivity
  exact ⟨h, ⟨⟨Memory.wf_nil, nofun⟩, Memory.wf_nil, nofun⟩, ⟨hpow, hpow, hpow, hpow, hpow, hmod⟩,
    fun _ => ⟨rfl, rfl, rfl, rfl, rfl, rfl, rfl, rfl⟩, nofun⟩

theorem runEnd_inv {s : State} (h : RunEnd s) : Inv s := by
  induction h with
  | reset p es h => exact fromReset_inv es h
  | step _ hs ih => exact step_inv ih hs

/-- The refusal mark is set by a refused step and never cleared (30_encoding.md R98). -/
theorem step_refusalMark {s t : State} (h : step s = .next t) :
    t.refusalMark = (s.refusalMark || !admitted t) := by
  rcases step_passive_or_effect h with hp | ⟨inp, rest, i, _, _, _, _, he⟩
  · exact hp.mark
  · obtain ⟨_, _, _, _, _, hm⟩ := he.unwritten
    rcases he.halted_outcome with ⟨_, ho | ho⟩ | ⟨_, ho⟩ <;>
      simp [hm, ho, admitted, entry]

/-- A state is reached by admitted events exactly when it ends a run in which no step was refused. -/
theorem reachable_iff_runEnd (s : State) : Reachable s ↔ RunEnd s ∧ s.refusalMark = false := by
  constructor
  · intro h
    induction h with
    | reset p es h => exact ⟨.reset p es h, rfl⟩
    | step _ hs ha ih =>
      obtain ⟨hrun, hmark⟩ := ih
      exact ⟨.step hrun hs, by simp [step_refusalMark hs, hmark, ha]⟩
  · rintro ⟨h, hm⟩
    induction h with
    | reset p es h => exact .reset p es h
    | step _ hs ih =>
      obtain ⟨hmark, ha⟩ : _ ∧ _ := by simpa [step_refusalMark hs] using hm
      exact .step (ih hmark) hs ha

end Sys2Proof.Machine
end

section
/-! The settled statements of 10_state.md: the invariant and the phases, the two life flags, the slots, the counters and the
STATUS register. -/

namespace Sys2Proof.Machine

/-- STATUS as its bits, appended from bit 6 down to bit 0 (10_state.md R53). -/
theorem State.status_eq_concat (s : State) : s.status =
    (((((((0#25).concat s.initialized).concat s.halted).concat s.started).concat s.busy).concat
      s.txQueued).concat s.txActive).concat s.rxActive := rfl

end Sys2Proof.Machine

namespace Sys2Proof.Proofs

open Sys2Proof.Machine Sys2Proof.Safety

/-- Settles O56: a passive step changes nothing that the invariant reads, and each ending of a rule keeps its parts. -/
theorem stepKeepsInvariant : Obligations.StepKeepsInvariant :=
  fun _ _ => step_inv

/-- Settles O57, from the invariant: it holds after reset and every step keeps it, refused or not. -/
theorem reachedStatesMeetR56 : Obligations.ReachedStatesMeetR56 := by
  have atEnd (s : State) (h : RunEnd s) (hi : s.initialized = true) : betweenSteps s := by
    obtain ⟨_, _, _, _, hbetween⟩ := runEnd_inv h
    exact hbetween hi
  exact ⟨fun s h hi _ => atEnd s ((reachable_iff_runEnd s).mp h).1 hi, atEnd, reachable_iff_runEnd⟩

/-- Settles O12: only the reentry ending of a rule sets HALTED, no rule but a read runs while it is 1, and a read or a
refusal only writes what is no field of the machine. -/
theorem haltedStateIsFrozen : Obligations.HaltedStateIsFrozen := by
  refine ⟨fun s t h hh => ?_, fun s t h hh => ?_, fun s i hh hn hd hr => ?_, fun s t i h hh => ?_⟩
  · rcases step_passive_or_effect h with hp | ⟨_, _, _, _, _, _, _, he⟩
    · simp [hp.halted, hh, hp.notFatal]
    · rcases he.halted_outcome with ⟨e, ho | ho⟩ | ⟨e, ho⟩ <;> simp [e, ho, entry, hh]
  · rcases step_passive_or_effect h with hp | ⟨_, _, _, _, hf, _⟩
    · exact hp.halted.trans hh
    · exact absurd (hf.symm.trans hh) (by decide)
  · exact exec_halted (isRead_eq_false hd hr) hh hn
  · exact exec_halted_frame h hh

/-- Settles O13: the prologue ignores the events before INIT, and every rule that runs leaves INITIALIZED set. -/
theorem eventsBeforeInitAreIgnored : Obligations.EventsBeforeInitAreIgnored := by
  refine ⟨fun s i h0 hh hn hi hd hr => ?_, fun s t hh hn h => ?_, fun s t h hi => ?_⟩
  · exact exec_before_init (isRead_eq_false hd hr) hi h0 hh hn
  · rw [exec_live .init s rfl (.inr rfl) hh hn] at h
    exact (rule_effect rfl h).initialized (.inr rfl)
  · rcases step_passive_or_effect h with hp | ⟨_, _, _, _, _, _, _, he⟩
    · exact hp.initialized.trans hi
    · exact he.initialized (.inl hi)

/-- Settles O25: a passive event is no live RX_DONE, and among the endings of the rules only the two of a completion
toggle the slot. -/
theorem onlyCompletionsSwapSlots : Obligations.OnlyCompletionsSwapSlots := by
  intro s t i h
  rcases exec_passive_or_effect h with ⟨hp, hread⟩ | ⟨hh, hn, hi, he⟩
  · rw [hp.activeSlot, if_neg]
    rintro ⟨hl, ⟨e, rfl⟩, _⟩
    exact Bool.false_ne_true (hread hl)
  · have e : t.activeSlot =
        if (∃ e, i = .rxDone e) ∧ s.rxActive = true then s.activeSlot.other else s.activeSlot := he.activeSlot
    rcases hi with hi | rfl
    · have hl : live s := ⟨hi, hh, hn⟩
      rwa [if_congr (and_iff_right hl) rfl rfl]
    · simpa using e

/-- Settles O26: the one slot whose memory a rule changes is the active one, and it does so at LINE_FALL and RX_BYTE. -/
theorem slotWritesStayInActiveSlot : Obligations.SlotWritesStayInActiveSlot := by
  intro s t i h
  rcases exec_passive_or_effect h with ⟨hp, _⟩ | ⟨_, _, _, he⟩
  · have e (ix : SlotIx) : t.slot ix = s.slot ix := hp.slot ix
    exact ⟨fun k => congrArg (readCell · k) (e _), fun _ _ => ⟨e .s0, e .s1⟩⟩
  · refine ⟨fun k => ?_, fun hl hb => ?_⟩
    · have e : t.slot s.activeSlot.other = s.slot s.activeSlot.other :=
        (he.slot _).resolve_right fun ⟨hx, _⟩ => SlotIx.other_ne _ hx
      exact congrArg (readCell · k) e
    · have e (ix : SlotIx) : t.slot ix = s.slot ix := by
        refine (he.slot ix).resolve_right ?_
        rintro ⟨_, ⟨⟨wh, hi⟩, _⟩ | ⟨b, hi, _⟩⟩
        · exact hl wh hi
        · exact hb b hi
      exact ⟨e .s0, e .s1⟩

/-- Settles O51: no passive event and no rule writes BUS_STATE, and its register reads a constant. -/
theorem busStateIsNeverWritten : Obligations.BusStateIsNeverWritten := by
  refine ⟨fun s t h => ?_, fun _ => rfl⟩
  rcases step_passive_or_effect h with hp | ⟨_, _, _, _, _, _, _, he⟩
  · exact hp.busState
  · obtain ⟨_, hb, _⟩ := he.unwritten
    exact hb

/-- Settles O52: a passive event emits reads at most and counts nothing, and every rule starts from an empty output list and
counts the causes it emits. -/
theorem countersCountTheirCauses : Obligations.CountersCountTheirCauses := by
  refine ⟨fun s t h => ?_, bumpCounter_toNat⟩
  rcases step_passive_or_effect h with hp | ⟨_, _, _, _, _, _, _, he⟩
  · exact hp.countsItsCauses
  · exact he.countsItsCauses rfl

/-- Settles O59: by the two flags and the timer; a pulse is armed only with a request pending (10_state.md R56 item 8). -/
theorem txPhasesPartition : Obligations.TxPhasesPartition := by
  intro s ⟨_, _, _, hquiet, hbetween⟩
  have hpulse : s.tmrKind = .pulse → s.txPending = true := by
    intro hk
    cases hi : s.initialized
    · obtain ⟨_, _, _, _, _, _, h0, _⟩ := hquiet hi
      exact absurd (h0.symm.trans hk) (by decide)
    · obtain ⟨_, _, _, _, _, _, _, h8, _⟩ := hbetween hi
      obtain ⟨_, _, hp⟩ := h8 hk
      exact hp
  by_cases hk : s.tmrKind = .pulse
  · cases ha : s.txActive <;>
      simp [State.txTransmitting, State.txArbitrating, State.txQueuedPhase, State.txIdle, ha, hk, hpulse hk]
  · cases ha : s.txActive <;> cases hp : s.txPending <;>
      simp [State.txTransmitting, State.txArbitrating, State.txQueuedPhase, State.txIdle, ha, hk, hp]

/-- Settles O60, from items 5 and 8 of 10_state.md R56. -/
theorem rxPhasesAndPulse : Obligations.RxPhasesAndPulse := by
  intro s ⟨_, _, _, _, hbetween⟩ hi
  obtain ⟨_, _, _, _, hrx, _, _, hpulse, _⟩ := hbetween hi
  refine ⟨?_, ?_, fun hk => ?_⟩
  · cases hr : s.rxActive
    · simp [State.rxReceiving, State.rxHeaderWait, State.rxBodyWait, hr]
    · rcases hrx.mp hr with hk | hk <;>
        simp [State.rxReceiving, State.rxHeaderWait, State.rxBodyWait, hr, hk]
  · cases hk : s.tmrKind <;> simp [State.rxHeaderWait, State.rxBodyWait, hk]
  · obtain ⟨hr, ha, _⟩ := hpulse hk
    exact ⟨hr, ha⟩

/-- Settles O49: STATUS is built by appending its bits, so each append moves the bits before it up by one. -/
theorem statusFieldLayout : Obligations.StatusFieldLayout := by
  intro s
  rw [State.status_eq_concat]
  refine ⟨?_, ?_, ?_, ?_, ?_, ?_, ?_, fun i hi => ?above, by decide⟩
  case above =>
    obtain ⟨j, rfl⟩ : ∃ j, i = j + 7 := ⟨i - 7, by omega⟩
    simp only [BitVec.getLsbD_concat_succ, BitVec.getLsbD_zero]
  case refine_5 =>
    simp only [BitVec.getLsbD_concat_zero, BitVec.getLsbD_concat_succ]
    exact decide_not.symm
  all_goals simp only [BitVec.getLsbD_concat_zero, BitVec.getLsbD_concat_succ, State.busy]

end Sys2Proof.Proofs
end

section
/-! The life of one receive slot (20_memory.md R79): a slot that no reception fills keeps its bytes until a LINE_FALL acts on
it, because RX_BYTE writes only during a reception and only LINE_FALL starts one. -/

namespace Sys2Proof.Machine

open Sys2Proof.Safety

/-- No reception in progress fills slot `ix`. -/
def AtRest (ix : SlotIx) (s : State) : Prop := s.activeSlot = ix → s.rxActive = false

theorem atRest_other (s : State) : AtRest s.activeSlot.other s := fun h => absurd h.symm (SlotIx.other_ne _)

/-- A rule keeps the bytes of a slot at rest, and leaves it at rest, unless it is a LINE_FALL that acts on that slot. A
completion that makes the slot the active one leaves it at rest, as it ends the reception. -/
theorem Effect.keeps_slot_atRest {i : Instr} {s t : State} {ix : SlotIx} (h : Effect i s t) (hs : AtRest ix s) :
    (t.slot ix = s.slot ix ∧ AtRest ix t) ∨
      (s.activeSlot = ix ∧ (∃ wh, i = .lineFall wh) ∧ t.outcome = s.outcome) := by
  cases h with
  | arm =>
    by_cases hx : s.activeSlot = ix
    · exact .inr ⟨hx, ⟨_, rfl⟩, by simp⟩
    · exact .inl ⟨State.setSlot_slot_other s _ ix _ (Ne.symm hx), fun h => absurd (by simpa using h) hx⟩
  | failedWait =>
    by_cases hx : s.activeSlot = ix
    · exact .inr ⟨hx, ⟨_, rfl⟩, by simp⟩
    · refine .inl ⟨?_, fun _ => by simp⟩
      rw [rxTimedOut_slot]
      exact State.setSlot_slot_other s _ ix _ (Ne.symm hx)
  | store hr =>
    have hx : s.activeSlot ≠ ix := fun h => absurd (hr.symm.trans (hs h)) (by decide)
    exact .inl ⟨State.setSlot_slot_other s _ ix _ hx.symm, fun h => absurd (by simpa using h) hx⟩
  | drop | dispatch | timeout => exact .inl ⟨by cases ix <;> simp [State.slot], fun _ => by simp⟩
  | _ => exact .inl ⟨by cases ix <;> simp [State.slot], by simpa [AtRest] using hs⟩

theorem Passive.atRest {ix : SlotIx} {s t : State} (h : Passive s t) (hs : AtRest ix s) : AtRest ix t := by
  rw [h.same]
  exact hs

/-- One step keeps the bytes of a slot at rest, and leaves it at rest, unless a LINE_FALL acts on it. -/
theorem step_keeps_slot_atRest {s t : State} {ix : SlotIx} (h : step s = .next t) (hs : AtRest ix s)
    (hl : s.activeSlot = ix → lineFallNext s → t.outcome ≠ .acted) :
    t.slot ix = s.slot ix ∧ AtRest ix t := by
  obtain ⟨_, ⟨_, rfl⟩ | ⟨inp, rest, hp, ⟨r, _, rfl⟩ | ⟨i, hd, hx⟩⟩⟩ := step_cases s t h
  · exact ⟨(passive_waitIdle s).slot ix, hs⟩
  · have hq := (passive_markRefused (s.deliver inp rest) r).of_deliver
    exact ⟨hq.slot ix, hq.atRest hs⟩
  · rcases exec_passive_or_effect hx with ⟨hq, _⟩ | ⟨_, _, _, he⟩
    · exact ⟨hq.of_deliver.slot ix, hq.of_deliver.atRest hs⟩
    · have hentry := passive_entry_deliver s inp rest
      rcases he.keeps_slot_atRest (hentry.atRest hs) with ⟨e, ht⟩ | ⟨ha, ⟨wh, rfl⟩, ho⟩
      · exact ⟨e.trans (hentry.slot ix), ht⟩
      · exact absurd ho (hl ha ⟨inp, rest, wh, hp, hd⟩)

theorem runSteps_succ_eq_next_iff (k : Nat) (s u : State) :
    runSteps (k + 1) s = .next u ↔ ∃ t, step s = .next t ∧ runSteps k t = .next u := by
  rw [runSteps]
  cases step s <;> simp

/-- A run keeps the bytes of a slot at rest as long as no LINE_FALL acts on it. -/
theorem runSteps_keeps_slot_atRest {ix : SlotIx} {u : State} (k : Nat) {s : State}
    (h : runSteps k s = .next u) (hs : AtRest ix s)
    (hl : ∀ j v w, j < k → runSteps j s = .next v → step v = .next w → v.activeSlot = ix →
      lineFallNext v → w.outcome ≠ .acted) : u.slot ix = s.slot ix := by
  induction k generalizing s with
  | zero => cases h; rfl
  | succ k ih =>
    obtain ⟨t, hst, hrun⟩ := (runSteps_succ_eq_next_iff k s u).mp h
    obtain ⟨e, ht⟩ := step_keeps_slot_atRest hst hs (hl 0 s t (Nat.succ_pos k) rfl hst)
    have later : u.slot ix = t.slot ix := ih hrun ht fun j v w hj hv =>
      hl (j + 1) v w (Nat.succ_lt_succ hj) ((runSteps_succ_eq_next_iff j s v).mpr ⟨t, hst, hv⟩)
    exact later.trans e

end Sys2Proof.Machine
end

section
/-! Progress (20_memory.md R83): the invariant rules out each of the two faults of the model, and a step consumes the event it
delivers. -/

namespace Sys2Proof.Machine

open Sys2Proof.Safety

/-- `RX_COUNT` never passes the end of a slot, before INIT or after it (10_state.md R56 item 9). -/
theorem rxCount_le_of_inv {s : State} (h : Inv s) : s.rxCount ≤ s.par.rxSlotBytes := by
  obtain ⟨_, _, _, hquiet, hbetween⟩ := h
  cases hi : s.initialized
  · obtain ⟨_, _, _, _, _, hc, _⟩ := hquiet hi
    omega
  · obtain ⟨_, _, _, _, _, _, _, _, hc, _⟩ := hbetween hi
    exact hc

/-- A frame is held during a transmission, before INIT or after it (10_state.md R56 item 3). -/
theorem txFrame_ne_none_of_inv {s : State} (h : Inv s) (ha : s.txActive = true) : s.txFrame ≠ none := by
  obtain ⟨_, _, _, hquiet, hbetween⟩ := h
  cases hi : s.initialized
  · obtain ⟨_, ha0, _⟩ := hquiet hi
    exact absurd (ha0.symm.trans ha) (by decide)
  · obtain ⟨_, _, hheld, _⟩ := hbetween hi
    exact hheld ha

/-- Admitted parameters keep the size byte inside the slot (00_scope.md R9; 40_frame_codec.md R120). -/
theorem sizeOffset_lt_of_valid {p : Params} (h : p.valid = true) : p.sizeOffset < p.rxSlotBytes := by
  obtain ⟨_, hsize, _⟩ := (Params.valid_iff p).mp h
  exact hsize

theorem rxByte_ne_fault (b : Byte) {s : State} (hc : s.rxCount ≤ s.par.rxSlotBytes) (f : Fault) :
    rxByte b s ≠ .fault f := by
  unfold rxByte
  split
  · split
    · exact nofun
    next hfull =>
      rw [memWrite_ok s _ _ b (Nat.lt_of_le_of_ne hc hfull)]
      exact nofun
  · exact nofun

theorem finishReception_ne_fault (err : Bool) (ix : SlotIx) {n : Nat} {s : State} (hv : s.par.valid = true)
    (hn : n ≤ s.par.rxSlotBytes) (f : Fault) : finishReception err ix n s ≠ .fault f := by
  obtain ⟨v, hval⟩ := validate_ok s ix n hv hn
  unfold finishReception
  rw [hval, frameSize_ok s ix (sizeOffset_lt_of_valid hv)]
  cases err <;> cases v <;> exact nofun

theorem rxDone_ne_fault (err : Bool) {s : State} (hv : s.par.valid = true) (hc : s.rxCount ≤ s.par.rxSlotBytes)
    (f : Fault) : rxDone err s ≠ .fault f := by
  unfold rxDone
  split
  · exact finishReception_ne_fault err _ (by simpa using hv) (by simpa using hc) f
  · exact nofun

theorem hdrGuard_ne_fault {s : State} (hv : s.par.valid = true) (f : Fault) : hdrGuard s ≠ .fault f := by
  unfold hdrGuard
  split
  · split
    · exact nofun
    · rw [frameSize_ok s _ (sizeOffset_lt_of_valid hv)]
      exact nofun
  · exact nofun

theorem timerCallback_ne_fault (k : TimerKind) {s : State} (hv : s.par.valid = true) (f : Fault) :
    timerCallback k s ≠ .fault f := by
  cases k with
  | hdrGuard => exact hdrGuard_ne_fault hv f
  | none | heartbeat | pulse | rxDeadline => exact nofun

theorem timerFire_ne_fault {s : State} (hv : s.par.valid = true) (f : Fault) : timerFire s ≠ .fault f := by
  unfold timerFire
  split
  · exact nofun
  · split
    · exact nofun
    · exact timerCallback_ne_fault _ (s := { s with tmrKind := .none }) hv f

theorem txDone_ne_fault {s : State} (hf : s.txActive = true → s.txFrame ≠ none) (f : Fault) :
    txDone s ≠ .fault f := by
  unfold txDone
  split
  next ha =>
    split
    next hnone => exact absurd hnone (hf ha)
    · exact nofun
  · exact nofun

/-- Under the invariant no rule faults: the slot is never left, and TX_DONE finds the frame it releases. -/
theorem rule_ne_fault (i : Instr) {s : State} (hs : Inv s) (f : Fault) : rule i s ≠ .fault f := by
  obtain ⟨hv, _⟩ := id hs
  cases i with
  | rxByte b => exact rxByte_ne_fault b (rxCount_le_of_inv hs) f
  | rxDone err => exact rxDone_ne_fault err hv (rxCount_le_of_inv hs) f
  | timerFire => exact timerFire_ne_fault hv f
  | txDone code => exact txDone_ne_fault (txFrame_ne_none_of_inv hs) f
  | init | lineFall | packetReady | regRead | diagSnapshot => exact nofun

/-- The prologue adds no fault of its own, and hands the rule a state that meets the invariant (44_control.md R240). -/
theorem runEvent_ne_fault (wh bi : Bool) (body : State → Result) {s : State} (hs : Inv s) (f : Fault)
    (hbody : ∀ t, Safety.Inv t → body t ≠ .fault f) : runEvent wh bi body s ≠ .fault f := by
  rcases runEvent_cases s wh bi body with
    ⟨_, e⟩ | ⟨_, _, _, e⟩ | ⟨_, _, _, e⟩ | ⟨_, _, _, e⟩ | ⟨_, _, _, _, e⟩ <;> rw [e]
  case inr.inl => exact hbody s.begin hs
  case inr.inr.inr.inl => exact hbody s.begin.latchNow hs
  all_goals exact nofun

theorem exec_ne_fault (i : Instr) {s : State} (hs : Inv s) (f : Fault) : exec i s ≠ .fault f := by
  by_cases hw : i.wf = true
  · rw [exec_eq_runEvent i s hw]
    exact runEvent_ne_fault _ _ _ hs f fun t ht => rule_ne_fault i ht f
  · cases i with
    | regRead a =>
      simp only [exec, execRegRead, if_neg hw]
      exact nofun
    | _ => exact absurd rfl hw

theorem step_ne_fault {s : State} (hs : Inv s) (f : Fault) : step s ≠ .fault f := by
  unfold step
  split
  · split
    · exact nofun
    next inp rest _ =>
      split
      · exact nofun
      next i _ => exact exec_ne_fault i (s := s.deliver inp rest) hs f
  · exact nofun

/-- A rule does not touch the events still to come. -/
theorem rule_pending {i : Instr} {s t : State} (h : rule i s = .next t) : t.pending = s.pending := by
  cases hr : isRead i
  · obtain ⟨_, _, _, _, hp, _⟩ := (rule_effect hr h).unwritten
    exact hp
  · obtain ⟨vs, rfl⟩ := rule_read hr h
    rfl

theorem exec_pending {i : Instr} {s t : State} (h : exec i s = .next t) : t.pending = s.pending := by
  rcases exec_cases i s t h with
    ⟨r, rfl, _⟩ | ⟨_, _, _, hx⟩ | ⟨_, _, _, rfl⟩ | ⟨_, _, _, hx⟩ | ⟨_, _, _, _, rfl⟩
  case inr.inl => simpa using rule_pending hx
  case inr.inr.inr.inl => simpa using rule_pending hx
  all_goals rfl

/-- A step consumes the event it delivers, refused or not (30_encoding.md R90, R98). -/
theorem step_pending {s t : State} (h : step s = .next t) : t.pending = s.pending.tail := by
  obtain ⟨_, ⟨hp, rfl⟩ | ⟨inp, rest, hp, ⟨r, _, rfl⟩ | ⟨i, _, hx⟩⟩⟩ := step_cases s t h
  · simp [hp]
  · simp [hp]
  · simp [hp, exec_pending hx]

/-- Under the invariant a step answers a next state. -/
theorem step_next_of_inv {s : State} (hs : Inv s) : ∃ t, step s = .next t := by
  obtain ⟨hv, _⟩ := id hs
  cases h : step s with
  | next t => exact ⟨t, rfl⟩
  | fault f => exact absurd h (step_ne_fault hs f)
  | refused r => exact absurd hv ((step_eq_refused_iff s r).mp h).1

end Sys2Proof.Machine
end

section
/-! The settled statements of 20_memory.md: what happens to a completed slot, and that every event makes progress. -/

namespace Sys2Proof.Proofs

open Sys2Proof.Machine Sys2Proof.Safety

/-- Settles O27: the slot that is not active is at rest, and a slot at rest keeps its bytes until a LINE_FALL acts on it. -/
theorem completedSlotIsKept : Obligations.CompletedSlotIsKept :=
  fun s _ k h hl i => congrArg (readCell · i) (runSteps_keeps_slot_atRest k h (atRest_other s) hl)

/-- Settles O58: the invariant excludes the faults and the one refusal, and no rule touches the events still to come. -/
theorem everyStepMakesProgress : Obligations.EveryStepMakesProgress := by
  intro s hs
  obtain ⟨t, h⟩ := step_next_of_inv hs
  exact ⟨t, h, step_pending h⟩

end Sys2Proof.Proofs
end

section
/-! The decoder and the encoder of event words (30_encoding.md): an accepted word is exactly the encoding of its event, a
refusal is for one of three reasons, and a row of the table admits exactly the words that decode to its event. -/

namespace Sys2Proof

@[simp] theorem argOfBit_high (b : Bool) : (argOfBit b).extractLsb' 1 3 = 0#3 := by revert b; decide

@[simp] theorem argOfBit_low (b : Bool) : (argOfBit b)[0] = b := by revert b; decide

/-- Every well-formed event is read back from its own word (30_encoding.md R93, R100). -/
theorem decode_encode {i : Instr} (h : i.wf = true) : decode (encode i) = .ok i := by
  cases i with
  | regRead a =>
    have ha : a.extractLsb' 0 2 = 0#2 := by simpa [Instr.wf] using h
    simp [decode, encode, ha]
  | _ => simp [decode, encode, acceptWhen]

theorem packEvent_eq_of_fields {w : EventWord} {d : BitVec 8} {a c : BitVec 4} (hd : eventData w = d)
    (ha : eventArg w = a) (hc : eventCode w = c) : packEvent d a c = w := by
  rw [← hd, ← ha, ← hc, packEvent_fields]

/-- An accepted word has no bit that the encoding of its event drops (30_encoding.md R93, R100). -/
theorem wf_and_encode_of_decode {w : EventWord} {i : Instr} (h : decode w = .ok i) :
    i.wf = true ∧ encode i = w := by
  unfold decode at h
  split at h
  -- The n-th branch is CODE n, and the last one the reserved codes: 8 is REG_READ.
  case h_8 hc =>
    dsimp only at h
    split at h
    · next ha =>
      split at h
      · next hd =>
        obtain rfl := Except.ok.inj h
        exact ⟨hd, packEvent_eq_of_fields rfl (by simpa using ha) (BitVec.eq_of_toNat_eq hc)⟩
      · cases h
    · cases h
  case h_10 => cases h
  -- LINE_FALL and RX_DONE, with a one-bit operand in ARG.
  case h_2 hc | h_4 hc =>
    obtain ⟨hz, rfl⟩ := acceptWhen_ok h
    obtain ⟨ha, hd⟩ : (eventArg w).extractLsb' 1 3 = 0#3 ∧ eventData w = 0#8 := by simpa using hz
    exact ⟨rfl, packEvent_eq_of_fields hd (argOfBit_arg_zero _ ha).symm (BitVec.eq_of_toNat_eq hc)⟩
  -- RX_BYTE, with the operand in DATA.
  case h_3 hc =>
    obtain ⟨ha, rfl⟩ := acceptWhen_ok h
    exact ⟨rfl, packEvent_eq_of_fields rfl (by simpa using ha) (BitVec.eq_of_toNat_eq hc)⟩
  -- TX_DONE, with the operand in ARG.
  case h_7 hc =>
    obtain ⟨hd, rfl⟩ := acceptWhen_ok h
    exact ⟨rfl, packEvent_eq_of_fields (by simpa using hd) rfl (BitVec.eq_of_toNat_eq hc)⟩
  -- The four events without an operand.
  all_goals
    next hc =>
    obtain ⟨hz, rfl⟩ := acceptWhen_ok h
    obtain ⟨ha, hd⟩ : eventArg w = 0#4 ∧ eventData w = 0#8 := by simpa using hz
    exact ⟨rfl, packEvent_eq_of_fields hd ha (BitVec.eq_of_toNat_eq hc)⟩

/-- Decoding and encoding are inverse between the accepted words and the well-formed events. -/
theorem decode_eq_ok_iff {w : EventWord} {i : Instr} : decode w = .ok i ↔ i.wf = true ∧ encode i = w :=
  ⟨wf_and_encode_of_decode, fun ⟨hi, he⟩ => he ▸ decode_encode hi⟩

theorem acceptWhen_error {z : Bool} {i : Instr} {r : RefuseReason} (h : acceptWhen z i = .error r) :
    r = .mustBeZero := by
  cases z <;> simp_all [acceptWhen]

/-- The three ways a word is refused (30_encoding.md R96 to R98, R100). -/
theorem decode_error_cases {w : EventWord} {r : RefuseReason} (h : decode w = .error r) :
    (r = .reservedCode ∧ ((eventCode w).toNat = 0 ∨ 9 < (eventCode w).toNat)) ∨
    (r = .misaligned ∧ (eventCode w).toNat = 8 ∧ eventArg w = 0#4 ∧ (eventData w).extractLsb' 0 2 ≠ 0#2) ∨
    (r = .mustBeZero ∧ 1 ≤ (eventCode w).toNat ∧ (eventCode w).toNat ≤ 9 ∧
      ((eventCode w).toNat = 8 → eventArg w ≠ 0#4)) := by
  unfold decode at h
  split at h
  case h_8 hc =>
    dsimp only at h
    split at h
    · next ha =>
      split at h
      · cases h
      · next hd => exact .inr (.inl ⟨by simpa using h.symm, hc, by simpa using ha, by simpa using hd⟩)
    · next ha => exact .inr (.inr ⟨by simpa using h.symm, by omega, by omega, fun _ => by simpa using ha⟩)
  case h_10 =>
    simp only [imp_false] at *
    exact .inl ⟨by simpa using h.symm, by omega⟩
  all_goals exact .inr (.inr ⟨acceptWhen_error h, by omega, by omega, by omega⟩)

theorem packEvent_and (d d' : BitVec 8) (a a' c c' : BitVec 4) :
    packEvent d a c &&& packEvent d' a' c' = packEvent (d &&& d') (a &&& a') (c &&& c') :=
  (BitVec.and_append (x₁ := d ++ a) (x₂ := d' ++ a')).trans (congrArg (· ++ _) BitVec.and_append)

theorem packEvent_inj {d d' : BitVec 8} {a a' c c' : BitVec 4} :
    packEvent d a c = packEvent d' a' c' ↔ d = d' ∧ a = a' ∧ c = c' := by
  refine ⟨fun h => ?_, fun ⟨hd, ha, hc⟩ => by rw [hd, ha, hc]⟩
  exact ⟨by simpa using congrArg eventData h, by simpa using congrArg eventArg h,
    by simpa using congrArg eventCode h⟩

/-- A row whose mask covers CODE tests each field of a word by itself (30_encoding.md R100, R101). -/
theorem fields_of_admits {n : String} {p m w : EventWord} (d : BitVec 8) (a c : BitVec 4)
    (hp : p = packEvent 0#8 0#4 c) (hm : m = packEvent d a (BitVec.allOnes 4))
    (h : OpcodeRow.admits ⟨n, p, m⟩ w = true) :
    eventData w &&& d = 0#8 ∧ eventArg w &&& a = 0#4 ∧ eventCode w = c := by
  have hw : w &&& m = p := beq_iff_eq.mp h
  rwa [hp, hm, ← packEvent_fields w, packEvent_and, packEvent_inj, BitVec.and_allOnes] at hw

/-- A mask of ones over bits that the pattern leaves zero makes those bits zero. -/
theorem extractLsb'_eq_zero_of_and {n st len : Nat} {x m : BitVec n}
    (hm : m.extractLsb' st len = BitVec.allOnes len) (h : x &&& m = 0#n) : x.extractLsb' st len = 0#len := by
  have h0 : (x &&& m).extractLsb' st len = 0#len := by simp [h]
  rwa [BitVec.extractLsb'_and, hm, BitVec.and_allOnes] at h0

/-- A row with no operand admits its pattern alone (30_encoding.md R93). -/
theorem eq_packEvent_of_admits {n : String} {p m w : EventWord} (c : BitVec 4) (hp : p = packEvent 0#8 0#4 c)
    (hm : m = BitVec.allOnes 16) (h : OpcodeRow.admits ⟨n, p, m⟩ w = true) : packEvent 0#8 0#4 c = w := by
  have hw : w &&& m = p := beq_iff_eq.mp h
  rw [← hp, ← hw, hm, BitVec.and_allOnes]

/-- A row with a one-bit operand admits its pattern with that bit at `ARG[0]` (30_encoding.md R93). -/
theorem eq_packEvent_bit_of_admits {n : String} {p m w : EventWord} (c : BitVec 4) (hp : p = packEvent 0#8 0#4 c)
    (hm : m = packEvent (BitVec.allOnes 8) 0xE#4 (BitVec.allOnes 4)) (h : OpcodeRow.admits ⟨n, p, m⟩ w = true) :
    packEvent 0#8 (argOfBit (eventArg w)[0]) c = w := by
  obtain ⟨hd, ha, hc⟩ := fields_of_admits _ _ c hp hm h
  rw [BitVec.and_allOnes] at hd
  exact packEvent_eq_of_fields hd (argOfBit_arg_zero _ (extractLsb'_eq_zero_of_and (by decide) ha)).symm hc

/-- A word that a row admits decodes to an event of that row: the operand is read from the fields that the row's mask
leaves free. -/
theorem decode_of_admits {i : Instr} {w : EventWord} (h : i.row.admits w = true) :
    ∃ j, decode w = .ok j ∧ j.row = i.row := by
  simp only [decode_eq_ok_iff]
  cases i with
  | init => exact ⟨.init, ⟨rfl, eq_packEvent_of_admits 1#4 (by decide) (by decide) h⟩, rfl⟩
  | lineFall wh =>
    exact ⟨.lineFall _, ⟨rfl, eq_packEvent_bit_of_admits 2#4 (by decide) (by decide) h⟩, rfl⟩
  | rxByte b =>
    obtain ⟨_, ha, hc⟩ := fields_of_admits 0#8 (BitVec.allOnes 4) 3#4 (by decide) (by decide) h
    rw [BitVec.and_allOnes] at ha
    exact ⟨.rxByte (eventData w), ⟨rfl, packEvent_eq_of_fields rfl ha hc⟩, rfl⟩
  | rxDone err =>
    exact ⟨.rxDone _, ⟨rfl, eq_packEvent_bit_of_admits 4#4 (by decide) (by decide) h⟩, rfl⟩
  | timerFire => exact ⟨.timerFire, ⟨rfl, eq_packEvent_of_admits 5#4 (by decide) (by decide) h⟩, rfl⟩
  | packetReady => exact ⟨.packetReady, ⟨rfl, eq_packEvent_of_admits 6#4 (by decide) (by decide) h⟩, rfl⟩
  | txDone code =>
    obtain ⟨hd, _, hc⟩ := fields_of_admits (BitVec.allOnes 8) 0#4 7#4 (by decide) (by decide) h
    rw [BitVec.and_allOnes] at hd
    exact ⟨.txDone (eventArg w), ⟨rfl, packEvent_eq_of_fields hd rfl hc⟩, rfl⟩
  | regRead a =>
    obtain ⟨hd, ha, hc⟩ := fields_of_admits 3#8 (BitVec.allOnes 4) 8#4 (by decide) (by decide) h
    have hlow : (eventData w).extractLsb' 0 2 = 0#2 := extractLsb'_eq_zero_of_and (by decide) hd
    rw [BitVec.and_allOnes] at ha
    exact ⟨.regRead (eventData w), ⟨beq_iff_eq.mpr hlow, packEvent_eq_of_fields rfl ha hc⟩, rfl⟩
  | diagSnapshot => exact ⟨.diagSnapshot, ⟨rfl, eq_packEvent_of_admits 9#4 (by decide) (by decide) h⟩, rfl⟩

/-- The row of an event admits its word (30_encoding.md R101). -/
theorem admits_encode {i : Instr} (h : i.wf = true) : i.row.admits (encode i) = true := by
  cases i with
  | init => exact Laws.TableRow.init h
  | lineFall wh => exact Laws.TableRow.lineFall wh h
  | rxByte b => exact Laws.TableRow.rxByte b h
  | rxDone err => exact Laws.TableRow.rxDone err h
  | timerFire => exact Laws.TableRow.timerFire h
  | packetReady => exact Laws.TableRow.packetReady h
  | txDone code => exact Laws.TableRow.txDone code h
  | regRead a => exact Laws.TableRow.regRead a h
  | diagSnapshot => exact Laws.TableRow.diagSnapshot h

/-- A row admits exactly the words that decode to an event of that row (30_encoding.md R100, R101). -/
theorem admits_iff_decode (i : Instr) (w : EventWord) :
    i.row.admits w = true ↔ ∃ j, decode w = .ok j ∧ j.row = i.row := by
  refine ⟨decode_of_admits, fun ⟨j, hj, hrow⟩ => ?_⟩
  obtain ⟨hwf, rfl⟩ := decode_eq_ok_iff.mp hj
  exact hrow ▸ admits_encode hwf

theorem exists_row_of_mem_opcodeTable {r : OpcodeRow} (h : r ∈ opcodeTable) : ∃ i : Instr, i.row = r := by
  simp only [opcodeTable, List.mem_cons, List.not_mem_nil, or_false] at h
  rcases h with rfl | rfl | rfl | rfl | rfl | rfl | rfl | rfl | rfl <;> exact ⟨_, rfl⟩

/-- The row of an event stands in the table once. -/
theorem filter_opcodeTable_row (i : Instr) : opcodeTable.filter (fun r => i.row = r) = [i.row] := by
  cases i <;> rfl

end Sys2Proof

namespace Sys2Proof.Machine

/-- A refused word sets the mark and is consumed (30_encoding.md R98; log 4). -/
theorem step_of_decode_error {s : State} {inp : Input} {rest : List Input} {r : RefuseReason}
    (hv : s.par.valid = true) (hp : s.pending = inp :: rest) (hd : decode inp.word = .error r) :
    step s = .next ((s.deliver inp rest).markRefused r) := by
  simp only [step, hv, hp, hd, if_true]

/-- A REG_READ event without an encoding is refused as its word is (30_encoding.md R96; log 23). -/
theorem exec_regRead_misaligned (s : State) {a : BitVec 8} (h : (Instr.regRead a).wf ≠ true) :
    exec (.regRead a) s = .next (s.markRefused .misaligned) := if_neg h

end Sys2Proof.Machine
end

section
/-! The settled statements of 30_encoding.md. -/

namespace Sys2Proof.Proofs

open Sys2Proof.Machine

/-- Settles O1: packing and taking apart the fields are inverse, and each must-be-zero field is packed as zero. -/
theorem decodeEncodeRoundTrip : Obligations.DecodeEncodeRoundTrip := fun _ => decode_encode

/-- Settles O2: the decoder checks each field that the encoder writes as a constant. -/
theorem encodeDecodeRoundTrip : Obligations.EncodeDecodeRoundTrip := fun _ _ => wf_and_encode_of_decode

/-- Settles O3: each row of the table is the row of an event, so a word matches the rows of the event that it decodes
to, of which the table has one. -/
theorem acceptedWordMatchesOneTableRow : Obligations.AcceptedWordMatchesOneTableRow := by
  refine fun w => ⟨fun i hi => ?_, fun e he => List.filter_eq_nil_iff.mpr fun r hr hw => ?_⟩
  · rw [← filter_opcodeTable_row i]
    refine List.filter_congr fun r hr => ?_
    obtain ⟨j, rfl⟩ := exists_row_of_mem_opcodeTable hr
    rw [Bool.eq_iff_iff, admits_iff_decode, hi, decide_eq_true_iff]
    simp
  · obtain ⟨i, rfl⟩ := exists_row_of_mem_opcodeTable hr
    obtain ⟨j, hj, _⟩ := decode_of_admits hw
    rw [he] at hj
    cases hj

/-- Settles O4: the three refusals of the decoder exclude each other. -/
theorem refusalReasonOfWord : Obligations.RefusalReasonOfWord := by
  intro w r h
  have h8 : eventCode w = 8#4 ↔ (eventCode w).toNat = 8 := BitVec.toNat_inj.symm
  rw [h8]
  rcases decode_error_cases h with ⟨rfl, hc⟩ | ⟨rfl, hc, ha, hd⟩ | ⟨rfl, hlo, hhi, ha⟩
  · exact ⟨iff_of_true rfl hc, iff_of_false nofun (by omega), nofun⟩
  · exact ⟨iff_of_false nofun (by omega), iff_of_true rfl ⟨hc, ha, hd⟩, nofun⟩
  · exact ⟨iff_of_false nofun (by omega), iff_of_false nofun fun ⟨hc, h0, _⟩ => ha hc h0, nofun⟩

/-- Settles O8: a refused word is one step, and each step keeps the mark or sets it. -/
theorem refusedWordOnlySetsStickyMark : Obligations.RefusedWordOnlySetsStickyMark :=
  ⟨fun _ _ _ _ => step_of_decode_error, fun s t h hm => by simp [step_refusalMark h, hm]⟩

/-- Settles O5: each word is the encoding of its event. -/
theorem sampleWordsDecode : Obligations.SampleWordsDecode := by
  refine ⟨?_, ?_, ?_, ?_, ?_, ?_, ?_, ?_, ?_⟩ <;> exact decode_eq_ok_iff.mpr ⟨rfl, rfl⟩

/-- Settles O47: a misaligned address is the one operand that is not well-formed. -/
theorem misalignedRegReadIsRefused : Obligations.MisalignedRegReadIsRefused :=
  fun s _ h => exec_regRead_misaligned s (mt beq_iff_eq.mp h)

end Sys2Proof.Proofs
end

section
/-! The frame codec (40_frame_codec.md R120 to R125): with admitted parameters every access of `FrameSize` and `Validate`
lies inside the slot, so `Validate` is the length check followed by one comparison of two numbers. -/

namespace Sys2Proof.Machine

variable {s : State} {ix : SlotIx} {n fs : Nat}

/-- The checksum that `Validate` computes: over the bytes of `[2, fs)` of the slot (40_frame_codec.md R123). -/
def bodyChecksum (s : State) (ix : SlotIx) (fs : Nat) : Nat :=
  (crc16 s.par.crc ((List.range (fs - 2)).map fun k => s.slotByte ix (2 + k))).toNat

/-- The checksum that the frame carries: its first two bytes, little-endian (40_frame_codec.md R123). -/
def headerChecksum (s : State) (ix : SlotIx) : Nat :=
  (s.slotByte ix 0).toNat + 256 * (s.slotByte ix 1).toNat

/-- `FrameSize` answers the length byte plus the bias, and admitted parameters keep it at 4 or more
(40_frame_codec.md R120). -/
theorem exists_frameSize (s : State) (ix : SlotIx) (hv : s.par.valid = true) :
    ∃ fs, frameSize s ix = .ok fs ∧ fs = (s.slotByte ix s.par.sizeOffset).toNat + s.par.frameSizeBias ∧
      4 ≤ fs ∧ fs ≤ 255 + s.par.frameSizeBias := by
  obtain ⟨hbias, _⟩ := (Params.valid_iff _).mp hv
  have hbyte := (s.slotByte ix s.par.sizeOffset).isLt
  exact ⟨_, frameSize_ok s ix (sizeOffset_lt_of_valid hv), rfl, by omega, by omega⟩

/-- The length check comes before every read of the frame's body. -/
theorem validate_of_lt (hf : frameSize s ix = .ok fs) (h : n < fs) : validate s ix n = .ok .tooShort := by
  simp only [validate, hf, if_pos h]

/-- Of a frame that came in full, the two checksums decide. -/
theorem validate_of_le (hf : frameSize s ix = .ok fs) (h4 : 4 ≤ fs) (hle : fs ≤ n) (hn : n ≤ s.par.rxSlotBytes) :
    validate s ix n = .ok (if bodyChecksum s ix fs = headerChecksum s ix then .ok else .crcMismatch) := by
  have hbody := memRead_ok s ix 2 (fs - 2) (by omega)
  have hheader := le16_ok s ix 0 (by omega)
  simp only [validate, hf, if_neg (Nat.not_lt.mpr hle), hbody, hheader]
  exact (apply_ite Except.ok ..).symm

end Sys2Proof.Machine
end

section
/-! The settled statements of 40_frame_codec.md. -/

namespace Sys2Proof.Proofs

open Sys2Proof.Machine

/-- Settles O28: the length check and the comparison of the checksums split the frames into three cases, each with its
verdict. -/
theorem validateReportsExactlyOneVerdict : Obligations.ValidateReportsExactlyOneVerdict := by
  intro s ix n hv hn
  obtain ⟨fs, hf, _, h4, _⟩ := exists_frameSize s ix hv
  refine ⟨fs, ?_⟩
  rcases Nat.lt_or_ge n fs with hshort | hle
  · have hlen := Nat.not_le.mpr hshort
    exact ⟨.tooShort, hf, validate_of_lt hf hshort, iff_of_false nofun (hlen ·.1), iff_of_true rfl hshort,
      iff_of_false nofun (hlen ·.1)⟩
  · have hlen := Nat.not_lt.mpr hle
    have hval := validate_of_le hf h4 hle hn
    by_cases hcrc : bodyChecksum s ix fs = headerChecksum s ix
    · rw [if_pos hcrc] at hval
      exact ⟨.ok, hf, hval, iff_of_true rfl ⟨hle, hcrc⟩, iff_of_false nofun hlen, iff_of_false nofun (·.2 hcrc)⟩
    · rw [if_neg hcrc] at hval
      exact ⟨.crcMismatch, hf, hval, iff_of_false nofun (hcrc ·.2), iff_of_false nofun hlen, iff_of_true rfl ⟨hle, hcrc⟩⟩

/-- Settles O29: the received count fits the slot, so a frame that declares more than the slot holds fails the length
check. The default parameters hold the largest frame, 255 plus the bias of 4, in a slot of 259 bytes. -/
theorem oversizeFrameNeverValidates : Obligations.OversizeFrameNeverValidates := by
  intro s ix n hv hn
  obtain ⟨fs, hf, hfs, h4, hmax⟩ := exists_frameSize s ix hv
  refine ⟨fs, hf, hfs, h4, hmax, fun hover => validate_of_lt hf (by omega), validate_ok s ix n hv hn, fun hdef => ?_⟩
  have hfit : 255 + s.par.frameSizeBias = s.par.rxSlotBytes := by rw [hdef]; rfl
  exact hfit ▸ hmax

end Sys2Proof.Proofs
end

section
/-! The receiver's shared endings as one state each (41_rx.md R140 to R147; 42_tx.md R180; 43_announce.md R221), and what a
live event does in the terms of its rule. -/

namespace Sys2Proof.Machine

open Sys2Proof.Safety

section

variable (s : State)

/-- Outside a reception `TickSched` re-arms: the pulse for a request that no transmission holds back, else the heartbeat
(42_tx.md R180). -/
theorem tickSched_of_not_receiving (hr : s.rxActive = false) : tickSched s = { s with
    txQueued := s.txPending && !s.txActive
    tmrKind := if s.txPending && !s.txActive then .pulse else .heartbeat
    tmrDeadline := if s.txPending && !s.txActive
      then s.now + drawAround s s.par.arbNominalUs s.par.arbJitterUs - s.par.wrOverheadUs
      else s.now + s.par.tickUs } := by
  rcases tickSched_cases s with ⟨h, _⟩ | ⟨_, hp, ha, e⟩ | ⟨_, hq, e⟩
  · exact absurd (hr.symm.trans h) (by decide)
  · simp [e, hp, ha]
  · have hb : (s.txPending && !s.txActive) = false := by rcases hq with h | h <;> simp [h]
    simp [e, hb]

theorem rxTimedOut_eq_tickSched : rxTimedOut s = tickSched { s with
    rxActive := false
    rxCount := 0
    busTimeoutError := bumpCounter s.par.cntW s.busTimeoutError
    out := s.out ++ [.faultNonFatal .rxTimeout, .uartRxAbort] } := by
  simp [rxTimedOut, State.countTimeoutError, State.signalNonFatal, State.emit]

/-- The throttle counts every call; at count 0 it checks the announce deadline, which arms it from 0 or when it has passed,
and asks for an announce in the second case (43_announce.md R220, R221). -/
theorem announceThrottle_eq_record : announceThrottle s = { s with
    annCnt := (s.annCnt + 1) % s.par.annCntMod
    annDeadline := if s.annCnt = 0 ∧ (s.annDeadline = 0 ∨ s.annDeadline < s.now)
      then s.now + s.par.annIntervalUs + drawJitter s s.par.annJitterMaxUs else s.annDeadline
    out := s.out ++ if s.annCnt = 0 ∧ s.annDeadline ≠ 0 ∧ s.annDeadline < s.now
      then [.appAnnounceReq] else [] } := by
  rw [announceThrottle_eq]
  split
  next h0 =>
    rcases checkAnnounce_cases { s with annCnt := (s.annCnt + 1) % s.par.annCntMod } with
      ⟨hd, e⟩ | ⟨hd, hlt, e⟩ | ⟨hd, hle, e⟩ <;> rw [e] <;> simp only at hd
    · simp [h0, hd, drawJitter]
    · simp [h0, hd, show s.annDeadline < s.now from hlt, drawJitter]
    · simp [h0, hd, Nat.not_lt.mpr (show s.now ≤ s.annDeadline from hle)]
  next h0 => simp [h0]

end

/-- Either form of a starting reception zeroes the active slot and leaves every other byte (41_rx.md R140). -/
theorem slotByte_armReception (wh : Bool) (s : State) (ix : SlotIx) (i : Nat) :
    (armReception wh s).slotByte ix i =
      if ix = s.activeSlot ∧ i < s.par.rxSlotBytes then 0#8 else s.slotByte ix i := by
  cases wh
  · rw [armReception_false, State.slotByte, rxTimedOut_slot]
    exact slotByte_zeroSlot s s.activeSlot ix i
  · rw [armReception_true]
    exact slotByte_zeroSlot s s.activeSlot ix i

/-- A live event runs its rule from the entry state (44_control.md R240). -/
theorem exec_of_live {i : Instr} {s : State} (hw : i.wf = true) (h : live s) : exec i s = rule i (entry s) := by
  obtain ⟨hi, hh, hn⟩ := h
  exact exec_live i s hw (.inl hi) hh hn

/-- A live LINE_FALL on an idle bus starts a reception (41_rx.md R140). -/
theorem exec_lineFall_of_idle {s : State} (wh : Bool) (h : live s) (hr : s.rxActive = false) (ha : s.txActive = false) :
    exec (.lineFall wh) s = .next (armReception wh (entry s)) := by
  rw [exec_of_live rfl h]
  simp [rule, lineFall, entry, hr, ha]

/-- With room in the slot RX_BYTE stores its byte at the count (41_rx.md R142). -/
theorem rxByte_of_room {s : State} (b : Byte) (hr : s.rxActive = true) (hc : s.rxCount < s.par.rxSlotBytes) :
    rxByte b s = .next { s.setSlot s.activeSlot (writeCell (s.slot s.activeSlot) s.rxCount b) with
      rxCount := s.rxCount + 1 } := by
  simp only [rxByte, if_pos hr, if_neg hc.ne, memWrite_ok s _ _ b hc, State.setSlot_rxCount]

/-- Without a reception, or with the slot full, RX_BYTE is ignored (41_rx.md R142). -/
theorem rxByte_of_ignored {s : State} (b : Byte) (h : s.rxActive = false ∨ s.rxCount = s.par.rxSlotBytes) :
    rxByte b s = .next s.ignored := by
  unfold rxByte
  split
  next hr => exact if_pos (h.resolve_left (by simp [hr]))
  next => rfl

/-- A due timer disarms itself and runs its callback (44_control.md R242). -/
theorem exec_timerFire_of_due {s : State} (h : live s) (hk : s.tmrKind ≠ .none) (hd : s.tmrDeadline ≤ s.input.now) :
    exec .timerFire s = timerCallback s.tmrKind { entry s with tmrKind := .none } := by
  rw [exec_of_live rfl h]
  exact (if_neg hk).trans (if_neg (Nat.not_lt.mpr hd))

/-- With admitted parameters the header guard reads a declared size (41_rx.md R144). -/
theorem hdrGuard_of_bytes {s : State} (hv : s.par.valid = true) (hr : s.rxActive = true) (hc : s.rxCount ≠ 0) :
    hdrGuard s = .next (s.armTimer .rxDeadline (s.now + s.par.rxUsPerByte *
      ((s.slotByte s.activeSlot s.par.sizeOffset).toNat + s.par.frameSizeBias) + s.par.rxMarginUs)) := by
  simp only [hdrGuard, if_pos hr, if_neg hc, frameSize_ok s s.activeSlot (sizeOffset_lt_of_valid hv)]

/-- The state that RX_DONE leaves of a completed reception, given the verdict and the declared size (41_rx.md R147). -/
def ending (err : Bool) (v : Verdict) (ix : SlotIx) (fs : Nat) (s : State) : State :=
  if err then rxError s .rxUart
  else
    match v with
    | .tooShort => rxError s .rxShort
    | .crcMismatch => rxError s .rxCrc
    | .ok => handOff s ix fs

theorem finishReception_eq_ending (err : Bool) {ix : SlotIx} {n fs : Nat} {v : Verdict} {s : State}
    (hf : frameSize s ix = .ok fs) (hv : validate s ix n = .ok v) :
    finishReception err ix n s = .next (ending err v ix fs s) := by
  rw [finishReception, hv, hf]
  cases err <;> cases v <;> rfl

/-- A dispatched frame is counted, and counted as dropped too when the application rejects it (41_rx.md R148). -/
theorem ending_ok (ix : SlotIx) (fs : Nat) (s : State) : ending false .ok ix fs s = { s with
    packetsReceived := bumpCounter s.par.cntW s.packetsReceived
    packetsDropped := if s.input.accept = .rejected then bumpCounter s.par.cntW s.packetsDropped else s.packetsDropped
    out := s.out ++ [.appDispatch ix fs] } := by
  cases h : s.input.accept <;>
    simp [ending, handOff, acceptAnswer, State.countReceived, State.countDropped, State.emit, h]

/-- A live RX_DONE of a reception completes it and ends it by what the codec says of the received slot (41_rx.md R147). -/
theorem exec_rxDone_of_receiving {s : State} {fs : Nat} {v : Verdict} (err : Bool) (h : live s)
    (hr : s.rxActive = true) (hf : frameSize s s.activeSlot = .ok fs)
    (hval : validate s s.activeSlot s.rxCount = .ok v) :
    exec (.rxDone err) s = .next (ending err v s.activeSlot fs (completeReception (entry s))) := by
  have hpar : (completeReception (entry s)).par = s.par := completeReception_par _
  have hslot : (completeReception (entry s)).slot s.activeSlot = s.slot s.activeSlot := completeReception_slot _ _
  rw [exec_of_live rfl h]
  exact (if_pos hr).trans (finishReception_eq_ending err ((frameSize_congr _ _ _ hpar hslot).trans hf)
    ((validate_congr _ _ _ _ hpar hslot).trans hval))

end Sys2Proof.Machine
end

section
/-! Frame assembly (41_rx.md R143): while a reception runs, the active slot holds the bytes that have come in and zero beyond
them, whatever events that are not the receiver's come between. -/

namespace Sys2Proof.Machine

open Sys2Proof.Safety

variable {ix : SlotIx} {bs : List Byte} {s t : State}

/-- The byte that an event carries (41_rx.md R142). -/
def eventByte : Instr → List Byte
  | .rxByte b => [b]
  | _ => []

theorem receivedBytes_cons {e : Input} {i : Instr} (hd : decode e.word = .ok i) (es : List Input) :
    receivedBytes (e :: es) = eventByte i ++ receivedBytes es := by
  cases i <;> simp [receivedBytes, eventByte, hd]

theorem exists_of_withinReception {e : Input} (h : withinReception e = true) :
    ∃ i, decode e.word = .ok i ∧ (∀ wh, i ≠ .lineFall wh) ∧ ∀ err, i ≠ .rxDone err := by
  unfold withinReception at h
  cases hd : decode e.word with
  | error r => simp [hd] at h
  | ok i =>
    refine ⟨i, rfl, ?_, ?_⟩ <;> rintro b rfl <;> simp [hd] at h

/-- Slot `ix` is being filled, and holds the bytes `bs` and zero beyond them (41_rx.md R143). -/
structure Assembling (ix : SlotIx) (bs : List Byte) (s : State) : Prop where
  slot : s.activeSlot = ix
  count : s.rxCount = bs.length
  wf : Memory.wf (s.slot ix)
  bytes : ∀ i < s.par.rxSlotBytes, s.slotByte ix i = (bs[i]?).getD 0#8

/-- The event rules run, and the reception that came to `bs`, if it is still in progress, is assembled. -/
structure Underway (ix : SlotIx) (bs : List Byte) (s : State) : Prop where
  initialized : s.initialized = true
  halted : s.halted = false
  assembling : s.rxActive = true → Assembling ix bs s

/-- What is assembled is a matter of the slots, the count and the size of a slot. -/
theorem Assembling.of_frame {cs : List Byte} (h : Assembling ix bs s) (hb : cs = bs) (hp : t.par = s.par)
    (ha : t.activeSlot = s.activeSlot) (hc : t.rxCount = s.rxCount) (hm : t.slot ix = s.slot ix) :
    Assembling ix cs t :=
  hb ▸ ⟨ha.trans h.slot, hc.trans h.count, hm ▸ h.wf, fun i hi => by
    rw [State.slotByte, hm]; exact h.bytes i (hp ▸ hi)⟩

/-- A byte that is stored at the count continues the bytes before it (41_rx.md R142). -/
theorem Assembling.store (h : Assembling ix bs s) (b : Byte) :
    Assembling ix (bs ++ [b]) { s.setSlot s.activeSlot (writeCell (s.slot s.activeSlot) s.rxCount b) with
      rxCount := s.rxCount + 1 } := by
  obtain ⟨rfl, hc, hwf, hbytes⟩ := h
  refine ⟨by simp, by simp [hc], ?_, fun i hi => ?_⟩
  · exact (State.setSlot_slot_same s _ _).symm ▸ writeCell_wf _ _ _ hwf
  · have hread := slotByte_setSlot_writeCell s s.activeSlot s.activeSlot s.rxCount i b hwf
    refine hread.trans ?_
    rcases Nat.lt_trichotomy i bs.length with hlt | rfl | hgt
    · rw [if_neg (by omega), hbytes i (by simpa using hi), List.getElem?_append_left hlt]
    · simp [hc]
    · rw [if_neg (by omega), hbytes i (by simpa using hi), List.getElem?_eq_none (by omega),
        List.getElem?_eq_none (by simp; omega)]

/-- No rule but LINE_FALL halts the machine. -/
theorem Effect.halted_of_not_lineFall {i : Instr} (h : Effect i s t) (hl : ∀ wh, i ≠ .lineFall wh) :
    t.halted = s.halted := by
  cases h with
  | reentry => exact absurd rfl (hl _)
  | _ => simp

/-- No rule but LINE_FALL starts a reception. -/
theorem Effect.rxActive_of_not_lineFall {i : Instr} (h : Effect i s t) (hl : ∀ wh, i ≠ .lineFall wh)
    (ht : t.rxActive = true) : s.rxActive = true := by
  cases h with
  | arm => exact absurd rfl (hl _)
  | drop | dispatch | failedWait | timeout => simp at ht
  | _ => simpa using ht

/-- What a rule that is neither LINE_FALL nor RX_DONE does to a reception with room for its byte, unless it times the
reception out: it assembles the byte, if it has one. -/
theorem Effect.assembling {i : Instr} (h : Effect i s t) (hl : ∀ wh, i ≠ .lineFall wh) (hd : ∀ err, i ≠ .rxDone err)
    (hroom : (bs ++ eventByte i).length ≤ s.par.rxSlotBytes) (hr : s.rxActive = true) (hs : Assembling ix bs s)
    (ht : t.rxActive = true) : Assembling ix (bs ++ eventByte i) t := by
  cases h with
  | arm | failedWait | reentry => exact absurd rfl (hl _)
  | drop | dispatch => exact absurd rfl (hd _)
  | store => exact hs.store _
  | ignored hg =>
    cases i with
    | rxByte b =>
      rcases hg with h0 | hfull
      · exact absurd (h0.symm.trans hr) (by decide)
      · rw [List.length_append, ← hs.count, hfull] at hroom
        exact absurd hroom (Nat.not_succ_le_self _)
    | _ => exact hs.of_frame (List.append_nil bs) rfl rfl rfl rfl
  | timeout => simp at ht
  | _ => exact hs.of_frame (List.append_nil bs) (by simp) (by simp) (by simp) (by cases ix <;> simp [State.slot])

/-- A rule that neither starts nor ends a reception keeps it underway, with the byte of its event. -/
theorem rule_underway {i : Instr} (hs : Underway ix bs s) (hl : ∀ wh, i ≠ .lineFall wh)
    (hd : ∀ err, i ≠ .rxDone err) (hroom : (bs ++ eventByte i).length ≤ s.par.rxSlotBytes)
    (h : rule i s = .next t) : Underway ix (bs ++ eventByte i) t := by
  cases hr : isRead i
  · have he := rule_effect hr h
    refine ⟨he.initialized (.inl hs.initialized), (he.halted_of_not_lineFall hl).trans hs.halted, fun ht => ?_⟩
    have hact := he.rxActive_of_not_lineFall hl ht
    exact he.assembling hl hd hroom hact (hs.assembling hact) ht
  · obtain ⟨vs, rfl⟩ := rule_read hr h
    have hnone : bs ++ eventByte i = bs := by
      cases i with
      | rxByte b => simp [isRead] at hr
      | _ => exact List.append_nil bs
    exact ⟨hs.initialized, hs.halted, fun ht => (hs.assembling ht).of_frame hnone rfl rfl rfl rfl⟩

theorem rule_par_now {i : Instr} (h : rule i s = .next t) : t.par = s.par ∧ t.now = s.now := by
  cases hr : isRead i
  · obtain ⟨hp, _, hn, _⟩ := (rule_effect hr h).unwritten
    exact ⟨hp, hn⟩
  · obtain ⟨vs, rfl⟩ := rule_read hr h
    exact ⟨rfl, rfl⟩

/-- An accepted word is one event, run with the inputs it is delivered with (30_encoding.md R90). -/
theorem step_of_decode_ok {inp : Input} {rest : List Input} {i : Instr} (hv : s.par.valid = true)
    (hp : s.pending = inp :: rest) (hd : decode inp.word = .ok i) : step s = exec i (s.deliver inp rest) := by
  simp only [step, hv, hp, hd, if_true]

theorem live_deliver {inp : Input} {rest : List Input} (hi : s.initialized = true) (hh : s.halted = false)
    (hn : s.now ≤ inp.now) : live (s.deliver inp rest) := ⟨hi, hh, hn⟩

/-- One step during a reception, at an event that is not the receiver's or a byte with room. -/
theorem step_underway {e : Input} {rest : List Input} (hs : Underway ix bs s) (hp : s.pending = e :: rest)
    (hw : withinReception e = true) (hn : s.now ≤ e.now)
    (hroom : (bs ++ receivedBytes [e]).length ≤ s.par.rxSlotBytes) (h : step s = .next t) :
    Underway ix (bs ++ receivedBytes [e]) t ∧ t.par = s.par ∧ t.now = e.now := by
  obtain ⟨i, hd, hl, hdone⟩ := exists_of_withinReception hw
  have hbyte : receivedBytes [e] = eventByte i := (receivedBytes_cons hd []).trans (List.append_nil _)
  have hrule : rule i (entry (s.deliver e rest)) = .next t := by
    rw [← exec_of_live (wf_and_encode_of_decode hd).1 (live_deliver hs.initialized hs.halted hn),
      ← step_of_decode_ok (step_cases s t h).1 hp hd, h]
  have hentry : Underway ix bs (entry (s.deliver e rest)) :=
    ⟨hs.initialized, hs.halted, fun hr => (hs.assembling hr).of_frame rfl rfl rfl rfl rfl⟩
  rw [hbyte] at hroom ⊢
  exact ⟨rule_underway hentry hl hdone hroom hrule, rule_par_now hrule⟩

/-- A run of events that neither start nor end a reception assembles the bytes among them, in order (41_rx.md R143). -/
theorem runSteps_underway {es rest : List Input} (hs : Underway ix bs s) (hp : s.pending = es ++ rest)
    (hw : ∀ e ∈ es, withinReception e = true) (hn : (s.now :: es.map Input.now).IsChain (· ≤ ·))
    (hroom : (bs ++ receivedBytes es).length ≤ s.par.rxSlotBytes) (h : runSteps es.length s = .next t) :
    Underway ix (bs ++ receivedBytes es) t ∧ t.par = s.par := by
  induction es generalizing bs s with
  | nil =>
    cases h
    exact ⟨(List.append_nil bs).symm ▸ hs, rfl⟩
  | cons e es ih =>
    obtain ⟨u, hstep, hrun⟩ := (runSteps_succ_eq_next_iff es.length s t).mp h
    obtain ⟨hne, hchain⟩ := List.isChain_cons_cons.mp hn
    have hsplit : receivedBytes (e :: es) = receivedBytes [e] ++ receivedBytes es :=
      List.filterMap_append (l := [e])
    rw [hsplit, ← List.append_assoc] at hroom ⊢
    obtain ⟨hu, hpar, hnow⟩ := step_underway hs hp (hw e List.mem_cons_self) hne
      (by simp only [List.length_append] at hroom ⊢; omega) hstep
    obtain ⟨ht, hpar'⟩ := ih hu (by rw [step_pending hstep, hp]; rfl)
      (fun x hx => hw x (List.mem_cons_of_mem e hx)) (hnow ▸ hchain) (hpar ▸ hroom) hrun
    exact ⟨ht, hpar'.trans hpar⟩

/-- A LINE_FALL on an idle bus with the line back high is a reception underway with no byte (41_rx.md R140). -/
theorem step_lineFall_underway {fall : Input} {rest : List Input} (hv : s.par.valid = true) (hs : slotsOk s)
    (hi : s.initialized = true) (hh : s.halted = false) (hr : s.rxActive = false) (ha : s.txActive = false)
    (hp : s.pending = fall :: rest) (hw : fall.word = encode (.lineFall true)) (hn : s.now ≤ fall.now) :
    ∃ u, step s = .next u ∧ Underway s.activeSlot [] u ∧ u.rxActive = true ∧
      u.par = s.par ∧ u.now = fall.now ∧ u.pending = rest ∧
      u.slot s.activeSlot.other = s.slot s.activeSlot.other := by
  have hstep : step s = .next (armReception true (entry (s.deliver fall rest))) := by
    rw [step_of_decode_ok hv hp (hw ▸ decode_encode rfl)]
    exact exec_lineFall_of_idle true (live_deliver hi hh hn) hr ha
  have hzero (i : Nat) := slotByte_armReception true (entry (s.deliver fall rest)) s.activeSlot i
  rw [armReception_true] at hstep hzero
  refine ⟨_, hstep, ⟨by simpa [entry] using hi, by simpa [entry] using hh,
    fun _ => ⟨by simp [entry], rfl, ?_, fun i hb => ?_⟩⟩, rfl, by simp [entry], by simp [entry], by simp [entry], ?_⟩
  · have hwf := clearBelow_wf _ s.par.rxSlotBytes ((slotsOk_iff s).mp hs s.activeSlot).1
    exact (State.setSlot_slot_same (entry (s.deliver fall rest)) s.activeSlot _).symm ▸ hwf
  · exact (hzero i).trans (if_pos ⟨rfl, by simpa [entry] using hb⟩)
  · exact State.setSlot_slot_other (entry (s.deliver fall rest)) _ _ _ (SlotIx.other_ne _)

/-- The words of RX_BYTE events stay within a reception and carry the bytes they are made from. -/
theorem receivedBytes_feed {feed : List (Byte × Input)} (hw : ∀ x ∈ feed, x.2.word = encode (.rxByte x.1)) :
    (∀ e ∈ feed.map Prod.snd, withinReception e = true) ∧ receivedBytes (feed.map Prod.snd) = feed.map Prod.fst := by
  induction feed with
  | nil => exact ⟨nofun, rfl⟩
  | cons x feed ih =>
    have hd : decode x.2.word = .ok (.rxByte x.1) := hw x List.mem_cons_self ▸ decode_encode rfl
    obtain ⟨hwithin, hbytes⟩ := ih fun y hy => hw y (List.mem_cons_of_mem x hy)
    refine ⟨List.forall_mem_cons.mpr ⟨by simp [withinReception, hd], hwithin⟩, ?_⟩
    rw [List.map_cons, receivedBytes_cons hd, hbytes]
    rfl

/-- With room for it, RX_BYTE during a reception neither ends it nor writes the other slot (41_rx.md R142). -/
theorem exists_step_rxByte {b : Byte} {e : Input} {rest : List Input} (hv : s.par.valid = true)
    (hs : Underway ix bs s) (hr : s.rxActive = true) (hp : s.pending = e :: rest)
    (hw : e.word = encode (.rxByte b)) (hn : s.now ≤ e.now) (hroom : bs.length < s.par.rxSlotBytes) :
    ∃ u, step s = .next u ∧ u.rxActive = true ∧ u.slot ix.other = s.slot ix.other := by
  obtain ⟨rfl, hcount, _, _⟩ := hs.assembling hr
  have hstep : step s = rxByte b (entry (s.deliver e rest)) := by
    rw [step_of_decode_ok hv hp (hw ▸ decode_encode rfl),
      exec_of_live rfl (live_deliver hs.initialized hs.halted hn), rule]
  refine ⟨_, hstep.trans (rxByte_of_room b hr (hcount.trans_lt hroom)), by simpa [entry] using hr, ?_⟩
  exact State.setSlot_slot_other (entry (s.deliver e rest)) _ _ _ (SlotIx.other_ne _)

/-- With room for them, RX_BYTE events alone keep a reception in progress, without a fault (41_rx.md R143). -/
theorem exists_runSteps_rxBytes {feed : List (Byte × Input)} {rest : List Input} (hv : s.par.valid = true)
    (hs : Underway ix bs s) (hr : s.rxActive = true) (hp : s.pending = feed.map Prod.snd ++ rest)
    (hw : ∀ x ∈ feed, x.2.word = encode (.rxByte x.1)) (hn : (s.now :: feed.map fun x => x.2.now).IsChain (· ≤ ·))
    (hroom : bs.length + feed.length ≤ s.par.rxSlotBytes) :
    ∃ t, runSteps feed.length s = .next t ∧ t.rxActive = true ∧ t.pending = rest ∧
      t.slot ix.other = s.slot ix.other := by
  induction feed generalizing bs s with
  | nil => exact ⟨s, rfl, hr, hp, rfl⟩
  | cons x feed ih =>
    obtain ⟨hnx, hchain⟩ := List.isChain_cons_cons.mp hn
    obtain ⟨hwx, hwfeed⟩ := List.forall_mem_cons.mp hw
    obtain ⟨hwithin, hbyte⟩ := receivedBytes_feed (feed := [x]) (by simpa using hwx)
    rw [List.length_cons] at hroom
    have hone : (receivedBytes [x.2]).length = 1 := congrArg List.length hbyte
    obtain ⟨u, hstep, hur, hkept⟩ := exists_step_rxByte hv hs hr hp hwx hnx (by omega)
    obtain ⟨hu, hpar, hnow⟩ := step_underway hs hp (hwithin x.2 List.mem_cons_self) hnx
      (by rw [List.length_append, hone]; omega) hstep
    obtain ⟨t, hrun, ht, hpend, hkept'⟩ := ih (hpar ▸ hv) hu hur (by rw [step_pending hstep, hp]; rfl) hwfeed
      (hnow ▸ hchain) (by rw [List.length_append, hone, hpar]; omega)
    exact ⟨t, (runSteps_succ_eq_next_iff feed.length s t).mpr ⟨u, hstep, hrun⟩, ht, hpend, hkept'.trans hkept⟩

end Sys2Proof.Machine
end

section
/-! The settled statements of 41_rx.md. -/

namespace Sys2Proof.Proofs

open Sys2Proof.Machine Sys2Proof.Safety

/-- Settles O18: the rule tests RX_ACTIVE first, then TX_ACTIVE. -/
theorem lineFallReentryHaltsAndMaskIgnores : Obligations.LineFallReentryHaltsAndMaskIgnores := by
  refine ⟨fun s wh h hr => ?_, fun s wh h hr ha => ?_⟩ <;> rw [exec_of_live rfl h]
  · exact congrArg _ (if_pos hr)
  · exact congrArg _ ((if_neg (Bool.eq_false_iff.mp hr)).trans (if_pos ha))

/-- Settles O24: the rule tests RX_ACTIVE first. -/
theorem lateRxDoneIsIgnored : Obligations.LateRxDoneIsIgnored := by
  intro s err h hr
  rw [exec_of_live rfl h]
  exact if_neg (Bool.eq_false_iff.mp hr)

/-- Settles O36: each of the three callbacks tests RX_ACTIVE, the pulse also TX_ACTIVE, and returns at once. -/
theorem unreachableCallbacksOnlyDisarm : Obligations.UnreachableCallbacksOnlyDisarm := by
  rintro s h hd (⟨hk, hb⟩ | ⟨hk, hr⟩ | ⟨hk, hr⟩) <;>
    rw [exec_timerFire_of_due h (by simp [hk]) hd, hk]
  · rcases arbPulse_cases { entry s with tmrKind := .none } with ⟨_, e⟩ | ⟨hr, ha, _⟩ | ⟨hr, ha, _⟩
    · exact congrArg _ e
    all_goals exact absurd hb (by simpa [entry] using And.intro hr ha)
  · exact if_neg (Bool.eq_false_iff.mp hr)
  · exact congrArg _ (if_neg (Bool.eq_false_iff.mp hr))

/-- Settles O16: the start of a reception zeroes the active slot and writes the fields listed. -/
theorem lineFallStartsReception : Obligations.LineFallStartsReception := by
  intro s h hr ha
  have hz := slotByte_armReception true (entry s)
  refine ⟨_, exec_lineFall_of_idle true h hr ha, fun i hi => ?_, fun i => ?_, fun i hi => ?_, ?_⟩
  · exact (hz _ i).trans (if_pos ⟨rfl, hi⟩)
  · exact (hz _ i).trans (if_neg fun ⟨hx, _⟩ => SlotIx.other_ne _ hx)
  · exact (hz _ i).trans (if_neg fun ⟨_, hx⟩ => Nat.not_lt.mpr hi hx)
  · simp [armReception_true, entry]

/-- Settles O17: a failed wait is a reception that starts and times out in one step. -/
theorem lineFallFailedWaitTimesOut : Obligations.LineFallFailedWaitTimesOut := by
  intro s h hr ha
  have hz := slotByte_armReception false (entry s)
  refine ⟨_, exec_lineFall_of_idle false h hr ha, fun i hi => ?_, fun i => ?_, ?_⟩
  · exact (hz _ i).trans (if_pos ⟨rfl, hi⟩)
  · exact (hz _ i).trans (if_neg fun ⟨hx, _⟩ => SlotIx.other_ne _ hx)
  · rw [armReception_false, rxTimedOut_eq_tickSched, tickSched_of_not_receiving _ rfl]
    simp [entry, ha, drawAround]

/-- Settles O19: a write of one byte is read back at its offset and nowhere else. -/
theorem rxByteStoresAtCount : Obligations.RxByteStoresAtCount := by
  refine ⟨fun s b h hs hr hc => ?_, fun s b h hx => ?_⟩ <;> rw [exec_of_live rfl h]
  · have hread (ix : SlotIx) (i : Nat) := slotByte_setSlot_writeCell (entry s) s.activeSlot ix s.rxCount i b
      ((slotsOk_iff s).mp hs s.activeSlot).1
    refine ⟨_, rxByte_of_room b hr hc, ?_, fun ix i hx => ?_, ?_⟩
    · exact (hread _ _).trans (if_pos ⟨rfl, rfl⟩)
    · exact (hread ix i).trans (if_neg hx)
    · simp [entry]
  · exact rxByte_of_ignored b hx

/-- Settles O20: LINE_FALL leaves a reception underway with no byte, each event that follows assembles its byte, and with
bytes alone no step faults or ends the reception. -/
theorem frameAssembly : Obligations.FrameAssembly := by
  refine ⟨fun s t fall es rest hv hs hi hh hr ha hp hw hes hn hroom hrun ht => ?_,
    fun s fall feed rest hv hs hi hh hr ha hp hw hfeed hn hroom => ?_⟩ <;>
    obtain ⟨hnf, hchain⟩ := List.isChain_cons_cons.mp hn <;>
    obtain ⟨u, hstep, hu, hur, hpar, hnow, hpend, hkept⟩ := step_lineFall_underway hv hs hi hh hr ha hp hw hnf
  · rw [Nat.add_comm, runSteps_succ_eq_next_iff, hstep] at hrun
    obtain ⟨_, ⟨⟩, hrun⟩ := hrun
    obtain ⟨hend, hpar'⟩ := runSteps_underway hu hpend hes (hnow ▸ hchain) (hpar ▸ hroom) hrun
    obtain ⟨hslot, hcount, _, hbytes⟩ := hend.assembling ht
    exact ⟨hslot, hcount, fun i hb => hbytes i (by rwa [hpar', hpar])⟩
  · obtain ⟨hwithin, hreceived⟩ := receivedBytes_feed hfeed
    obtain ⟨t, hrun, ht, htp, htkept⟩ := exists_runSteps_rxBytes (hpar ▸ hv) hu hur hpend hfeed
      (hnow ▸ hchain) (by rwa [List.length_nil, Nat.zero_add, hpar])
    obtain ⟨hend, hpar'⟩ := runSteps_underway hu hpend hwithin (by simpa [hnow, Function.comp_def] using hchain)
      (by simpa [hreceived, hpar] using hroom) (by simpa using hrun)
    obtain ⟨hslot, hcount, _, hbytes⟩ := hend.assembling ht
    rw [List.nil_append, hreceived] at hcount hbytes
    refine ⟨t, ?_, ht, hslot, by simpa using hcount, htp, fun i hb => hbytes i (by rwa [hpar', hpar]),
      fun i => congrArg (readCell · i) (htkept.trans hkept)⟩
    rw [Nat.add_comm]
    exact (runSteps_succ_eq_next_iff feed.length s t).mpr ⟨u, hstep, hrun⟩

/-- Settles O21: the count tells a reception with no byte, which times out, from one whose size byte is read. -/
theorem headerGuardTimesOutOrArmsDeadline : Obligations.HeaderGuardTimesOutOrArmsDeadline := by
  intro s h hv hk hd hr
  rw [exec_timerFire_of_due h (by simp [hk]) hd, hk]
  refine ⟨fun hc => ?_, fun hc => ?_⟩
  · have e : hdrGuard { entry s with tmrKind := .none } = .next (rxTimedOut { entry s with tmrKind := .none }) :=
      (if_pos hr).trans (if_pos hc)
    exact e.trans (congrArg _ (rxTimedOut_eq_tickSched _))
  · exact hdrGuard_of_bytes hv hr hc

/-- Settles O22: the deadline times the reception out, and outside a transmission `TickSched` re-arms for a request. -/
theorem frameDeadlineReleasesBus : Obligations.FrameDeadlineReleasesBus := by
  intro s h hk hd hr ha
  rw [exec_timerFire_of_due h (by simp [hk]) hd, hk]
  have e : rxDeadline { entry s with tmrKind := .none } = rxTimedOut { entry s with tmrKind := .none } := if_pos hr
  rw [timerCallback, e, rxTimedOut_eq_tickSched, tickSched_of_not_receiving _ rfl]
  simp [entry, ha, drawAround]

/-- Settles O23: the codec answers on the received slot, and its verdict picks one of the four endings. With the shared
operations written as one state, the fields of each ending can be read off. -/
theorem rxDoneCompletesReception : Obligations.RxDoneCompletesReception := by
  intro s err h hv hr hc
  obtain ⟨fs, hf, _⟩ := exists_frameSize s s.activeSlot hv
  obtain ⟨v, hval⟩ := validate_ok s s.activeSlot s.rxCount hv hc
  refine ⟨_, fs, v, exec_rxDone_of_receiving err h hr hf hval, hf, hval, ?_⟩
  rw [completeReception, tickSched_of_not_receiving _ rfl, announceThrottle_eq_record]
  cases err with
  | true => exact ⟨rfl, rfl, rfl, rfl, rfl, rfl, _, rfl, (if_pos rfl).mpr ⟨rfl, rfl, rfl, rfl⟩⟩
  | false =>
    cases v with
    | tooShort =>
      exact ⟨rfl, rfl, rfl, rfl, rfl, rfl, _, rfl, (if_neg nofun).mpr <| (if_pos rfl).mpr ⟨rfl, rfl, rfl, rfl⟩⟩
    | crcMismatch =>
      exact ⟨rfl, rfl, rfl, rfl, rfl, rfl, _, rfl,
        (if_neg nofun).mpr <| (if_neg nofun).mpr <| (if_pos rfl).mpr ⟨rfl, rfl, rfl, rfl⟩⟩
    | ok =>
      rw [ending_ok]
      exact ⟨rfl, rfl, rfl, rfl, rfl, rfl, _, rfl,
        (if_neg nofun).mpr <| (if_neg nofun).mpr <| (if_neg nofun).mpr ⟨rfl, rfl, rfl, rfl⟩⟩

end Sys2Proof.Proofs
end

section
/-! The transmitter arbiter (42_tx.md R180 to R188): the arbitration draw, a pulse that is given a frame, a due timer as a step,
and which frames the outputs of a step name. -/

namespace Sys2Proof.Machine

open Sys2Proof.Safety

/-- With admitted parameters every delay that the arbitration draws covers the write overhead (00_scope.md R9). -/
theorem drawAround_arb_range (s : State) (hv : s.par.valid = true) :
    s.par.arbNominalUs - s.par.arbJitterUs ≤ drawAround s s.par.arbNominalUs s.par.arbJitterUs ∧
      drawAround s s.par.arbNominalUs s.par.arbJitterUs ≤ s.par.arbNominalUs + s.par.arbJitterUs ∧
      s.par.wrOverheadUs ≤ drawAround s s.par.arbNominalUs s.par.arbJitterUs := by
  obtain ⟨_, _, hover, _⟩ := (Params.valid_iff _).mp hv
  obtain ⟨hlo, hhi⟩ := drawAround_range s s.par.arbNominalUs s.par.arbJitterUs (by omega)
  exact ⟨hlo, hhi, by omega⟩

/-- BUSY is the disjunction of its three flags (10_state.md R48). -/
theorem State.busy_iff (s : State) :
    s.busy = true ↔ s.rxActive = true ∨ s.txActive = true ∨ s.txQueued = true := by
  simp [State.busy, or_assoc]

/-- The pulse is armed at most the longest delay ahead (42_tx.md R181). -/
theorem arb_deadline_le {s : State} (hv : s.par.valid = true) (now : Nat) :
    now + drawAround s s.par.arbNominalUs s.par.arbJitterUs - s.par.wrOverheadUs + s.par.wrOverheadUs ≤
      now + s.par.arbNominalUs + s.par.arbJitterUs := by
  obtain ⟨_, hmax, hover⟩ := drawAround_arb_range s hv
  omega

/-- While receiving `TickSched` leaves everything (42_tx.md R180). -/
theorem tickSched_of_receiving {s : State} (hr : s.rxActive = true) : tickSched s = s := if_pos hr

/-- `TickSched` with a request on an idle bus arms the pulse (42_tx.md R180). -/
theorem tickSched_of_request {s : State} (hr : s.rxActive = false) (hp : s.txPending = true) (ha : s.txActive = false) :
    tickSched s = { s with
      txQueued := true
      tmrKind := .pulse
      tmrDeadline := s.now + drawAround s s.par.arbNominalUs s.par.arbJitterUs - s.par.wrOverheadUs } := by
  rw [tickSched_of_not_receiving s hr]
  simp [hp, ha]

/-- A heartbeat with a request on an idle bus arms the pulse; what else it writes is the announce scheduler's (42_tx.md R186;
43_announce.md R222). -/
theorem exists_heartbeat_of_request {s : State} (hr : s.rxActive = false) (hp : s.txPending = true)
    (ha : s.txActive = false) : ∃ ann out, heartbeat s = { s with
      txQueued := true
      tmrKind := .pulse
      tmrDeadline := s.now + drawAround s s.par.arbNominalUs s.par.arbJitterUs - s.par.wrOverheadUs
      annDeadline := ann
      out := out } := by
  rcases checkAnnounce_cases s with ⟨_, e⟩ | ⟨_, _, e⟩ | ⟨_, _, e⟩ <;>
    exact ⟨_, _, (congrArg tickSched e).trans (tickSched_of_request hr hp ha)⟩

/-- A pulse on an idle bus with no frame held and none to pull gives the request up (42_tx.md R183). -/
theorem arbPulse_of_no_frame {s : State} (hr : s.rxActive = false) (ha : s.txActive = false) (hf : s.txFrame = none)
    (hq : s.input.pull = none) : arbPulse s = { s with
      txActive := false
      txQueued := false
      txPending := false
      tmrKind := .heartbeat
      tmrDeadline := s.now + s.par.tickUs
      out := s.out ++ [.appPull] } := by
  simp [arbPulse, pullAnswer, tickSched_of_not_receiving, State.emit, hr, ha, hf, hq]

/-- The state from which a pulse attempts the start of a frame: the bus is claimed, the request is taken, the frame is held,
and the pull is asked for when no frame was held (42_tx.md R183). -/
def claimBus (f : TxFrame) (s : State) : State := { s with
  txActive := true
  txQueued := false
  txPending := false
  txFrame := some f
  out := s.out ++ if s.txFrame = none then [.appPull] else [] }

/-- A pulse on an idle bus that is given a frame, held or pulled, attempts its start (42_tx.md R183). -/
theorem arbPulse_of_frame {s : State} {f : TxFrame} (hr : s.rxActive = false) (ha : s.txActive = false)
    (hf : s.txFrame = some f ∨ (s.txFrame = none ∧ s.input.pull = some f)) :
    arbPulse s = arbStart f (claimBus f s) := by
  rcases hf with hf | ⟨hf, hq⟩
  · simp [arbPulse, claimBus, hr, ha, hf]
  · simp [arbPulse, claimBus, pullAnswer, State.emit, hr, ha, hf, hq]

/-- A due pulse on an idle bus that is given a frame comes to the start attempt (42_tx.md R183; 44_control.md R242). -/
theorem exec_timerFire_of_frame {s : State} {f : TxFrame} (h : live s) (hk : s.tmrKind = .pulse)
    (hd : s.tmrDeadline ≤ s.input.now) (hr : s.rxActive = false) (ha : s.txActive = false)
    (hf : s.txFrame = some f ∨ (s.txFrame = none ∧ s.input.pull = some f)) :
    exec .timerFire s = .next (arbStart f (claimBus f { entry s with tmrKind := .none })) := by
  rw [exec_timerFire_of_due h (by simp [hk]) hd, hk]
  exact congrArg _ (arbPulse_of_frame (s := { entry s with tmrKind := .none }) hr ha hf)

/-- With a held frame in transmission, TX_DONE of any code reports and releases it (42_tx.md R185; 30_encoding.md R99). -/
theorem exec_txDone_of_active {s : State} {f : TxFrame} (code : BitVec 4) (h : live s) (ha : s.txActive = true)
    (hf : s.txFrame = some f) :
    exec (.txDone code) s = .next (announceThrottle (tickSched { s with
      now := s.input.now
      txActive := false
      txFrame := none
      out := [.appFrameSent f.handle]
      outcome := .acted })) := by
  rw [exec_of_live rfl h]
  simp [rule, txDone, entry, State.begin, State.latchNow, State.emit, ha, hf]

/-- A pending TIMER_FIRE as a step (44_control.md R240). -/
theorem step_timerFire {s : State} {inp : Input} {rest : List Input} (hv : s.par.valid = true)
    (hp : s.pending = inp :: rest) (hw : inp.word = encode .timerFire) :
    step s = exec .timerFire (s.deliver inp rest) :=
  step_of_decode_ok hv hp (hw ▸ decode_encode rfl)

/-- The frame `f` is held and requested, the bus is idle, and events reach their rules (42_tx.md R186). -/
structure AwaitsStart (f : TxFrame) (s : State) : Prop where
  valid : s.par.valid = true
  initialized : s.initialized = true
  running : s.halted = false
  notReceiving : s.rxActive = false
  notSending : s.txActive = false
  requested : s.txPending = true
  held : s.txFrame = some f

section

variable {s : State} {f : TxFrame} {inp : Input} {rest : List Input}

/-- A due heartbeat as a step keeps the frame waiting and arms the pulse, at most the longest delay ahead (42_tx.md R181,
R186). -/
theorem AwaitsStart.step_heartbeat (h : AwaitsStart f s) (hk : s.tmrKind = .heartbeat) (hp : s.pending = inp :: rest)
    (hw : inp.word = encode .timerFire) (hn : s.now ≤ inp.now) (hd : s.tmrDeadline ≤ inp.now) :
    ∃ t, step s = .next t ∧ AwaitsStart f t ∧ t.tmrKind = .pulse ∧
      t.tmrDeadline + s.par.wrOverheadUs ≤ inp.now + s.par.arbNominalUs + s.par.arbJitterUs ∧
      t.now = inp.now ∧ t.pending = rest := by
  obtain ⟨hv, hi, hh, hr, ha, hq, hf⟩ := h
  obtain ⟨ann, out, e⟩ := exists_heartbeat_of_request
    (s := { entry (s.deliver inp rest) with tmrKind := .none }) hr hq ha
  have hstep : step s = .next (heartbeat { entry (s.deliver inp rest) with tmrKind := .none }) := by
    rw [step_timerFire hv hp hw, exec_timerFire_of_due (live_deliver hi hh hn) (by simp [hk]) hd,
      State.deliver_tmrKind, hk, timerCallback]
  rw [e] at hstep
  exact ⟨_, hstep, ⟨hv, hi, hh, hr, ha, hq, hf⟩, rfl, arb_deadline_le (s := s.deliver inp rest) hv inp.now, rfl, rfl⟩

/-- A due pulse as a step starts the waiting frame without a pull, keeps it held, and claims the bus when the start answers OK
(42_tx.md R183). -/
theorem AwaitsStart.step_pulse (h : AwaitsStart f s) (hk : s.tmrKind = .pulse) (hp : s.pending = inp :: rest)
    (hw : inp.word = encode .timerFire) (hn : s.now ≤ inp.now) (hd : s.tmrDeadline ≤ inp.now) :
    ∃ t, step s = .next t ∧ .appPull ∉ t.out ∧ .uartTxStart f.handle f.len ∈ t.out ∧ t.txFrame = some f ∧
      t.txActive = decide (inp.start = .ok) := by
  obtain ⟨hv, hi, hh, hr, ha, _, hf⟩ := h
  refine ⟨_, (step_timerFire hv hp hw).trans
    (exec_timerFire_of_frame (live_deliver hi hh hn) hk hd hr ha (.inl hf)), ?_⟩
  rcases arbStart_cases (claimBus f { entry (s.deliver inp rest) with tmrKind := .none }) f hr rfl rfl with
    ⟨hs, e⟩ | ⟨hs, e⟩
  · have hok : inp.start = .ok := hs
    rw [e]
    simp [hok, hf, claimBus, entry]
  · have hfail : inp.start = .fail := hs
    rw [e]
    simp [hfail, hf, claimBus, entry]

end

/-- What a step that starts with the frame `held` may say and do about it (42_tx.md R187). -/
structure AccountsFrame (held : Option TxFrame) (t : State) : Prop where
  pulled : .appPull ∈ t.out → held = none
  kept : ∀ f, held = some f → t.txFrame = some f ∨ (t.txFrame = none ∧ .appFrameSent f.handle ∈ t.out)
  sent : ∀ h, .appFrameSent h ∈ t.out → ∃ len, held = some ⟨h, len⟩ ∧ t.txFrame = none
  started : ∀ h len, .uartTxStart h len ∈ t.out → t.txFrame = some ⟨h, len⟩

/-- Whether an output action names the transmitter's frame: the pull, the start and the report (42_tx.md R187). -/
def isFrameAction : Action → Bool
  | .appPull | .uartTxStart _ _ | .appFrameSent _ => true
  | _ => false

/-- A step that keeps the held frame and emits none of the three actions accounts for it. -/
theorem AccountsFrame.of_quiet {held : Option TxFrame} {t : State} (hf : t.txFrame = held)
    (ho : ∀ a ∈ t.out, isFrameAction a = false) : AccountsFrame held t where
  pulled hm := nomatch ho _ hm
  kept _ h := .inl (hf.trans h)
  sent _ hm := nomatch ho _ hm
  started _ _ hm := nomatch ho _ hm

/-- A pulse pulls only when no frame is held, and keeps and starts the frame it holds then (42_tx.md R183). -/
theorem arbPulse_accountsFrame {s : State} (ho : s.out = []) : AccountsFrame s.txFrame (arbPulse s) := by
  rcases arbPulse_cases s with
    ⟨_, e⟩ | ⟨_, _, hf, _, e⟩ | ⟨_, _, f, pulls, ⟨hf, rfl⟩ | ⟨hf, _, rfl⟩, ⟨_, e⟩ | ⟨_, e⟩⟩ <;> rw [e]
  · exact .of_quiet rfl (by simp [ho])
  all_goals constructor <;> simp +contextual [ho, hf]

/-- The end of a transmission reports the held frame and releases it (42_tx.md R185). -/
theorem AccountsFrame.of_sent {t : State} {f : TxFrame} (hf : t.txFrame = none)
    (ho : t.out = [.appFrameSent f.handle] ∨ t.out = [.appFrameSent f.handle, .appAnnounceReq]) :
    AccountsFrame (some f) t := by
  obtain ⟨handle, len⟩ := f
  rcases ho with ho | ho <;> constructor <;> simp [ho, hf]

/-- Every ending of a rule accounts for the held frame: the pulse and the end of a transmission name it, and no other rule
touches it. -/
theorem Effect.accountsFrame {i : Instr} {s t : State} (h : Effect i s t) (ho : s.out = []) :
    AccountsFrame s.txFrame t := by
  cases h with
  | pulse => exact arbPulse_accountsFrame (s := { s with tmrKind := .none }) ho
  | @sent _ _ f _ hf =>
    rw [hf, ho]
    exact .of_sent (by simp) (by simpa using announceThrottle_out (tickSched { s with
      txFrame := none, txActive := false, out := [.appFrameSent f.handle] }))
  | heartbeat =>
    rcases heartbeat_out { s with tmrKind := .none } with e | e <;>
      exact .of_quiet (by simp) (by rw [e]; simp [ho, isFrameAction])
  | drop | dispatch =>
    rcases completeReception_out s with e | e <;> exact .of_quiet (by simp) (by simp [ho, e, isFrameAction])
  | _ => exact .of_quiet (by simp) (by simp [ho, isFrameAction])

/-- A passive event emits reads at most, which name no frame. -/
theorem Passive.accountsFrame {s t : State} (h : Passive s t) : AccountsFrame s.txFrame t :=
  .of_quiet (by rw [h.same]) fun a ha => by
    obtain ⟨v, rfl⟩ := h.reads a ha
    rfl

/-- Every step accounts for the held frame (42_tx.md R187). -/
theorem step_accountsFrame {s t : State} (h : step s = .next t) : AccountsFrame s.txFrame t := by
  rcases step_passive_or_effect h with hp | ⟨_, _, _, _, _, _, _, he⟩
  · exact hp.accountsFrame
  · exact he.accountsFrame rfl

end Sys2Proof.Machine
end

section
/-! The settled statements of 42_tx.md. -/

namespace Sys2Proof.Proofs

open Sys2Proof.Machine Sys2Proof.Safety

/-- Settles O32: the rule tests the three flags of BUSY, and `TickSched` arms the pulse when none is set. -/
theorem packetReadyArmsPulseOrRecords : Obligations.PacketReadyArmsPulseOrRecords := by
  refine ⟨fun s h hb => ?_, fun s h hb => ?_⟩ <;> rw [exec_of_live rfl h, rule]
  · rcases packetReady_cases (entry s) with ⟨_, _, _, e⟩ | ⟨hany, _⟩
    · exact congrArg _ e
    · exact nomatch hb.symm.trans ((State.busy_iff s).mpr hany)
  · rcases packetReady_cases (entry s) with ⟨hr, ha, hq, _⟩ | ⟨_, e⟩
    · obtain hb | hb | hb := (State.busy_iff s).mp hb
      · exact nomatch hr.symm.trans hb
      · exact nomatch ha.symm.trans hb
      · exact nomatch hq.symm.trans hb
    · exact congrArg _ e

/-- Settles O33: a start that answers OK leaves the bus claimed, and `TickSched` arms the heartbeat. -/
theorem pulseStartsTransmission : Obligations.PulseStartsTransmission := by
  intro s f h hk hd hr ha hs hf
  rw [exec_timerFire_of_frame h hk hd hr ha hf]
  rcases arbStart_cases (claimBus f { entry s with tmrKind := .none }) f hr rfl rfl with ⟨_, e⟩ | ⟨hfail, _⟩
  · exact congrArg _ e
  · exact nomatch hs.symm.trans hfail

/-- Settles O34: a start that answers FAIL releases the bus, and the request is set again after `TickSched` has armed the
heartbeat. -/
theorem startRaceKeepsFrame : Obligations.StartRaceKeepsFrame := by
  intro s f h hk hd hr ha hs hf
  rw [exec_timerFire_of_frame h hk hd hr ha hf]
  rcases arbStart_cases (claimBus f { entry s with tmrKind := .none }) f hr rfl rfl with ⟨hok, _⟩ | ⟨_, e⟩
  · exact nomatch hs.symm.trans hok
  · exact congrArg _ e

/-- Settles O35: without a frame `ArbPulse` ends at the pull. -/
theorem pulseWithoutFrameFinishes : Obligations.PulseWithoutFrameFinishes := by
  intro s h hk hd hr ha hf hq
  rw [exec_timerFire_of_due h (by simp [hk]) hd, hk]
  exact congrArg _ (arbPulse_of_no_frame (s := { entry s with tmrKind := .none }) hr ha hf hq)

/-- Settles O30, with the draw as the delay. -/
theorem tickSchedRearms : Obligations.TickSchedRearms := by
  refine fun s => ⟨tickSched_of_receiving, fun hr hp ha hv => ?_, fun hr hq => ?_⟩
  · obtain ⟨hlo, hhi, hover⟩ := drawAround_arb_range s hv
    exact ⟨_, hlo, hhi, hover, by rw [tickSched_of_request hr hp ha, Nat.add_sub_assoc hover]⟩
  · rw [tickSched_of_not_receiving s hr]
    rcases hq with h | h <;> simp [h]

/-- Settles O31: the delay is the draw less the write overhead, and every draw of the range is made for some input. -/
theorem arbitrationDelayWindow : Obligations.ArbitrationDelayWindow := by
  intro s hv hr hp ha
  have hdeadline (a : Nat) : (tickSched { s with input := { s.input with around := a } }).tmrDeadline = s.now +
      drawAround { s with input := { s.input with around := a } } s.par.arbNominalUs s.par.arbJitterUs -
        s.par.wrOverheadUs := by
    rw [tickSched_of_request (s := { s with input := { s.input with around := a } }) hr hp ha]
  obtain ⟨_, _, hover, _⟩ := (Params.valid_iff _).mp hv
  refine ⟨fun delay => ⟨fun ⟨hlo, hhi⟩ => ?_, fun ⟨a, h⟩ => ?_⟩, fun hdef => ?_⟩
  · refine ⟨delay + s.par.wrOverheadUs - (s.par.arbNominalUs - s.par.arbJitterUs), ?_⟩
    rw [hdeadline, drawAround_surjective s _ _ _ (by omega) (by omega) (by omega)]
    omega
  · have hrange := drawAround_range { s with input := { s.input with around := a } } s.par.arbNominalUs
      s.par.arbJitterUs (by omega)
    rw [hdeadline] at h
    omega
  · have hrange := drawAround_arb_range s hv
    rw [tickSched_of_request hr hp ha]
    simp only [hdef, Params.default] at hrange ⊢
    omega

/-- Settles O37: with `TickSched` and the throttle written as one state each, the fields can be read off. -/
theorem txDoneReleasesFrame : Obligations.TxDoneReleasesFrame := by
  refine ⟨fun s code f h ha hf => ?_, fun s code h ha => ?_⟩
  · refine ⟨_, exec_txDone_of_active code h ha hf, ?_⟩
    rw [announceThrottle_eq_record]
    cases hr : s.rxActive with
    | true =>
      rw [tickSched_of_receiving rfl]
      exact ⟨rfl, rfl, rfl, rfl, nofun, rfl, by simp⟩
    | false =>
      rw [tickSched_of_not_receiving _ rfl]
      simp [drawAround, drawJitter]
  · rw [exec_of_live rfl h]
    exact if_neg (Bool.eq_false_iff.mp ha)

/-- Settles O38: a passive step and every ending of a rule account for the held frame. -/
theorem frameAccounting : Obligations.FrameAccounting := by
  intro s t h
  obtain ⟨hpulled, hkept, hsent, hstarted⟩ := step_accountsFrame h
  exact ⟨hpulled, hkept, hsent, hstarted⟩

/-- Settles O39: the heartbeat arms the pulse at most the longest delay ahead and the frame goes on waiting, so that the
second timer event finds the pulse due and the frame held. -/
theorem racedFrameIsRetriedWithoutPull : Obligations.RacedFrameIsRetriedWithoutPull := by
  intro s f beat fire rest hv hi hh hr ha hq hf hk hp hbeat hfire hn hd hlate
  have hwaits : AwaitsStart f s := ⟨hv, hi, hh, hr, ha, hq, hf⟩
  obtain ⟨t, hstep, ht, hkind, hwindow, hnow, hpend⟩ := hwaits.step_heartbeat hk hp hbeat hn hd
  obtain ⟨_, _, hover, _⟩ := (Params.valid_iff _).mp hv
  obtain ⟨u, hu⟩ := ht.step_pulse hkind hpend hfire (by omega) (by omega)
  exact ⟨t, u, hstep, hkind, ht.held, hu⟩

end Sys2Proof.Proofs
end

section
/-! The announce scheduler (43_announce.md R220 to R224): the check and the heartbeat as one state each, the events that run the
check, and what every step does to the deadline and to the announce request. -/

namespace Sys2Proof.Machine

open Sys2Proof.Safety

section

variable (s : State)

/-- The check arms the deadline from 0 or when it has passed, and asks for an announce in the second case (43_announce.md
R220). -/
theorem checkAnnounce_eq_record : checkAnnounce s = { s with
    annDeadline := if s.annDeadline = 0 ∨ s.annDeadline < s.now
      then s.now + s.par.annIntervalUs + drawJitter s s.par.annJitterMaxUs else s.annDeadline
    out := s.out ++ if s.annDeadline ≠ 0 ∧ s.annDeadline < s.now then [.appAnnounceReq] else [] } := by
  rcases checkAnnounce_cases s with ⟨hd, e⟩ | ⟨hd, hlt, e⟩ | ⟨hd, hle, e⟩ <;> rw [e]
  · simp [hd]
  · simp [hd, hlt]
  · simp [hd, Nat.not_lt.mpr hle]

/-- The announce check does not read the throttle's count (43_announce.md R220). -/
theorem checkAnnounce_setAnnCnt (n : Nat) :
    checkAnnounce { s with annCnt := n } = { checkAnnounce s with annCnt := n } := by
  rw [checkAnnounce_eq_record, checkAnnounce_eq_record]
  rfl

/-- Outside a reception the heartbeat writes what the check and the tick scheduler write (43_announce.md R222). -/
theorem heartbeat_of_not_receiving (hr : s.rxActive = false) : heartbeat s = { s with
    txQueued := s.txPending && !s.txActive
    tmrKind := if s.txPending && !s.txActive then .pulse else .heartbeat
    tmrDeadline := if s.txPending && !s.txActive
      then s.now + drawAround s s.par.arbNominalUs s.par.arbJitterUs - s.par.wrOverheadUs
      else s.now + s.par.tickUs
    annDeadline := if s.annDeadline = 0 ∨ s.annDeadline < s.now
      then s.now + s.par.annIntervalUs + drawJitter s s.par.annJitterMaxUs else s.annDeadline
    out := s.out ++ if s.annDeadline ≠ 0 ∧ s.annDeadline < s.now then [.appAnnounceReq] else [] } := by
  rw [heartbeat, tickSched_of_not_receiving _ ((checkAnnounce_rxActive s).trans hr), checkAnnounce_eq_record]
  rfl

end

/-- The event runs `CheckAnnounce` from the state its rule starts from: a due heartbeat, or an acting completion that finds the
throttle's count at 0 (43_announce.md R220 callers). -/
def ChecksAnnounce : Instr → State → Prop
  | .timerFire, s => s.tmrKind = .heartbeat ∧ s.tmrDeadline ≤ s.now
  | .rxDone _, s => s.rxActive = true ∧ s.annCnt = 0
  | .txDone _, s => s.txActive = true ∧ s.annCnt = 0
  | _, _ => False

/-- What a step from `s` to `t` may do to the deadline and the announce request, given whether it runs `CheckAnnounce`
(43_announce.md R220, R223). -/
structure Announces (checked : Prop) (s t : State) : Prop where
  rearmed : checked → s.annDeadline = 0 ∨ s.annDeadline < t.now → t.now + s.par.annIntervalUs ≤ t.annDeadline
  kept : ¬(checked ∧ (s.annDeadline = 0 ∨ s.annDeadline < t.now)) → t.annDeadline = s.annDeadline
  asked : .appAnnounceReq ∈ t.out ↔ checked ∧ s.annDeadline ≠ 0 ∧ s.annDeadline < t.now

section

variable {i : Instr} {p q : Prop} {s t : State}

/-- A step without a check keeps the deadline and asks for nothing. -/
theorem Announces.of_unchecked (hp : ¬p) (hd : t.annDeadline = s.annDeadline) (ho : .appAnnounceReq ∉ t.out) :
    Announces p s t :=
  ⟨fun h => absurd h hp, fun _ => hd, iff_of_false ho fun ⟨h, _⟩ => hp h⟩

theorem Announces.congr (h : Announces p s t) (hpq : p ↔ q) : Announces q s t := propext hpq ▸ h

/-- From a state with the same deadline and parameters the step does the same. -/
theorem Announces.of_start {u : State} (h : Announces p u t) (hd : u.annDeadline = s.annDeadline) (hpar : u.par = s.par) :
    Announces p s t := by
  obtain ⟨hrearmed, hkept, hasked⟩ := h
  rw [hd] at hrearmed hkept hasked
  rw [hpar] at hrearmed
  exact ⟨hrearmed, hkept, hasked⟩

/-- What follows the check in a step may write anything but the deadline and the time, and emit anything but a request. -/
theorem Announces.of_end {u : State} (h : Announces p s u) (hd : t.annDeadline = u.annDeadline) (hn : t.now = u.now)
    (ho : .appAnnounceReq ∈ t.out ↔ .appAnnounceReq ∈ u.out) : Announces p s t := by
  obtain ⟨hrearmed, hkept, hasked⟩ := h
  rw [← hn, ← hd] at hrearmed
  rw [← hn, ← hd] at hkept
  rw [← hn, ← ho] at hasked
  exact ⟨hrearmed, hkept, hasked⟩

theorem checkAnnounce_announces (ho : .appAnnounceReq ∉ s.out) : Announces True s (checkAnnounce s) := by
  rw [checkAnnounce_eq_record]
  refine ⟨fun _ hd => ?_, fun hd => if_neg fun h => hd ⟨trivial, h⟩, ?_⟩
  · simp only [if_pos hd, Nat.le_add_right]
  · simp [ho]

/-- The throttle checks when its count is 0 (43_announce.md R221). -/
theorem announceThrottle_announces (ho : .appAnnounceReq ∉ s.out) :
    Announces (s.annCnt = 0) s (announceThrottle s) := by
  rw [announceThrottle_eq]
  split
  next h0 => exact ((checkAnnounce_announces (by exact ho)).congr (iff_of_true trivial h0)).of_start rfl rfl
  next h0 => exact .of_unchecked h0 rfl ho

theorem completeReception_announces (ho : .appAnnounceReq ∉ s.out) :
    Announces (s.annCnt = 0) s (completeReception s) :=
  ((announceThrottle_announces (by simpa using ho)).of_start (by simp) (by simp)).congr (by simp)

theorem heartbeat_announces (ho : .appAnnounceReq ∉ s.out) : Announces True s (heartbeat s) :=
  (checkAnnounce_announces ho).of_end (by simp [heartbeat]) (by simp) (by simp [heartbeat])

/-- A pulse asks for no announce (42_tx.md R183). -/
theorem announceReq_mem_arbPulse_out : .appAnnounceReq ∈ (arbPulse s).out ↔ .appAnnounceReq ∈ s.out := by
  rcases arbPulse_cases s with
    ⟨_, e⟩ | ⟨_, _, _, _, e⟩ | ⟨_, _, f, pulls, ⟨_, rfl⟩ | ⟨_, _, rfl⟩, ⟨_, e⟩ | ⟨_, e⟩⟩ <;> simp [e]

/-- An event that runs the check is one that its rule does not ignore (44_control.md R246). -/
theorem ChecksAnnounce.not_ignores (h : ChecksAnnounce i s) : ¬ignores i s := by
  cases i with
  | timerFire =>
    obtain ⟨hk, hd⟩ := h
    exact fun hg => hg.elim (by simp [hk]) (Nat.not_lt.mpr hd)
  | rxDone | txDone =>
    obtain ⟨hactive, _⟩ := h
    exact fun hg => nomatch hg.symm.trans hactive
  | _ => exact h.elim

/-- The events that run the check pass neither filter of the prologue (44_control.md R240). -/
theorem ChecksAnnounce.beforeInit (h : ChecksAnnounce i s) : beforeInit i = false := by
  cases i with
  | timerFire | rxDone | txDone => rfl
  | _ => exact h.elim

theorem beforeInit_of_isRead (h : isRead i = true) : beforeInit i = true := by
  cases i with
  | init => rfl
  | _ => exact h

/-- A rule does nothing in its IGNORED cases (44_control.md R246). -/
theorem rule_of_ignores (h : ignores i s) : rule i s = .next s.ignored := by
  cases i with
  | init => exact congrArg _ (if_pos h)
  | lineFall wh =>
    obtain ⟨hr, ha⟩ := h
    simp [rule, lineFall, hr, ha]
  | rxByte b => exact rxByte_of_ignored b h
  | rxDone err => exact if_neg (Bool.eq_false_iff.mp h)
  | timerFire =>
    by_cases hk : s.tmrKind = .none
    · exact if_pos hk
    · exact (if_neg hk).trans (if_pos (h.resolve_left hk))
  | txDone code => exact if_neg (Bool.eq_false_iff.mp h)
  | packetReady | regRead | diagSnapshot => exact h.elim

/-- Of the endings that are not IGNORED, the heartbeat checks, the completions check through the throttle, and no other
does. -/
theorem Effect.announces (h : Effect i s t) (ho : s.out = []) (hg : ¬ignores i s) :
    Announces (ChecksAnnounce i s) s t := by
  have hno : .appAnnounceReq ∉ s.out := ho ▸ nofun
  cases h with
  | ignored h => exact absurd h hg
  | drop hr | dispatch hr =>
    exact ((completeReception_announces hno).of_end (by simp) (by simp) (by simp)).congr (iff_and_self.mpr fun _ => hr)
  | heartbeat hk =>
    have hdue : s.tmrDeadline ≤ s.now := Nat.le_of_not_lt fun hlt => hg (.inr hlt)
    exact ((heartbeat_announces (by exact hno)).congr (iff_of_true trivial ⟨hk, hdue⟩)).of_start rfl rfl
  | sent ha =>
    exact ((announceThrottle_announces (by simpa using hno)).of_start (by simp) (by simp)).congr
      (by simp [ChecksAnnounce, ha])
  | pulse hk =>
    exact .of_unchecked (fun ⟨hb, _⟩ => nomatch hk.symm.trans hb) (by simp)
      (by simp [announceReq_mem_arbPulse_out, ho])
  | stray _ hk | timeout _ hk => exact .of_unchecked (fun ⟨hb, _⟩ => by simp [hb] at hk) (by simp) (by simp [ho])
  | guard _ hk => exact .of_unchecked (fun ⟨hb, _⟩ => nomatch hk.symm.trans hb) (by simp) (by simp [ho])
  | _ => exact .of_unchecked id (by simp) (by simp [ho])

/-- A passive event emits reads at most, and leaves the deadline. -/
theorem Passive.announces (h : Passive s t) (hp : ¬p) : Announces p s t :=
  .of_unchecked hp (by rw [h.same]) fun hm => by
    obtain ⟨v, hv⟩ := h.reads _ hm
    cases hv

theorem rule_announces (h : rule i s = .next t) (ho : s.out = []) : Announces (ChecksAnnounce i s) s t := by
  by_cases hg : ignores i s
  · obtain rfl : s.ignored = t := by simpa [rule_of_ignores hg] using h
    exact .of_unchecked (fun hc => hc.not_ignores hg) rfl (ho ▸ nofun)
  · cases hr : isRead i
    · exact (rule_effect hr h).announces ho hg
    · obtain ⟨vs, rfl⟩ := rule_read hr h
      exact .of_unchecked (fun hc => nomatch hc.beforeInit.symm.trans (beforeInit_of_isRead hr)) rfl (by simp [ho])

/-- An event runs the check exactly when it is live and one of the three that do. -/
theorem exec_announces (h : exec i s = .next t) : Announces (live s ∧ ChecksAnnounce i (entry s)) s t := by
  have notRead (hr : isRead i = true) : ¬(live s ∧ ChecksAnnounce i (entry s)) :=
    fun ⟨_, hc⟩ => nomatch hc.beforeInit.symm.trans (beforeInit_of_isRead hr)
  rcases exec_cases i s t h with
    ⟨r, rfl, hn | hw⟩ | ⟨_, _, hr, hx⟩ | ⟨_, hh, _, rfl⟩ | ⟨hn, hh, hi, hx⟩ | ⟨_, _, hi, _, rfl⟩
  · exact (passive_markRefused s r).announces fun ⟨⟨_, _, hle⟩, _⟩ => Nat.not_lt.mpr hle hn
  · exact (passive_markRefused s r).announces (notRead (isRead_of_not_wf hw))
  · exact (passive_read hr hx (.inl rfl)).announces (notRead hr)
  · exact (passive_ignored s).announces fun ⟨⟨_, hf, _⟩, _⟩ => nomatch hf.symm.trans hh
  · have hrule : Announces (ChecksAnnounce i (entry s)) s t := (rule_announces hx rfl).of_start rfl rfl
    exact hrule.congr (iff_and_self.mpr fun hc =>
      ⟨hi.resolve_right (Bool.eq_false_iff.mp hc.beforeInit), hh, hn⟩)
  · exact (passive_latched_ignored s).announces fun ⟨⟨hf, _, _⟩, _⟩ => nomatch hf.symm.trans hi

/-- Whether the next step runs the check, for the event it delivers (43_announce.md R220 callers). -/
theorem announceCheckNext_iff {inp : Input} {rest : List Input} (hp : s.pending = inp :: rest)
    (hd : decode inp.word = .ok i) : announceCheckNext s ↔
      live (s.deliver inp rest) ∧ ChecksAnnounce i (entry (s.deliver inp rest)) := by
  constructor
  · rintro ⟨hi, hh, inp', rest', i', hp', hd', hn, hc⟩
    obtain ⟨rfl, rfl⟩ : inp = inp' ∧ rest = rest' := by simpa using hp.symm.trans hp'
    obtain rfl : i = i' := by simpa using hd.symm.trans hd'
    refine ⟨⟨hi, hh, hn⟩, ?_⟩
    rcases hc with ⟨rfl, hk⟩ | ⟨⟨_, rfl⟩, hk⟩ | ⟨⟨_, rfl⟩, hk⟩ <;> exact hk
  · rintro ⟨⟨hi, hh, hn⟩, hc⟩
    refine ⟨hi, hh, inp, rest, i, hp, hd, hn, ?_⟩
    cases i with
    | timerFire => exact .inl ⟨rfl, hc⟩
    | rxDone err => exact .inr (.inl ⟨⟨err, rfl⟩, hc⟩)
    | txDone code => exact .inr (.inr ⟨⟨code, rfl⟩, hc⟩)
    | _ => exact hc.elim

/-- A step that delivers no event runs no check. -/
theorem not_announceCheckNext (h : ∀ inp rest i, s.pending = inp :: rest → decode inp.word ≠ .ok i) :
    ¬announceCheckNext s :=
  fun ⟨_, _, inp, rest, i, hp, hd, _⟩ => h inp rest i hp hd

theorem step_announces (h : step s = .next t) : Announces (announceCheckNext s) s t := by
  obtain ⟨_, ⟨hp, rfl⟩ | ⟨inp, rest, hp, ⟨r, hd, rfl⟩ | ⟨i, hd, hx⟩⟩⟩ := step_cases s t h
  · exact (passive_waitIdle s).announces (not_announceCheckNext (by simp [hp]))
  · refine (passive_markRefused (s.deliver inp rest) r).of_deliver.announces (not_announceCheckNext fun inp' rest' i hp' => ?_)
    obtain ⟨rfl, _⟩ : inp = inp' ∧ rest = rest' := by simpa using hp.symm.trans hp'
    simp [hd]
  · exact ((exec_announces hx).congr (announceCheckNext_iff hp hd).symm).of_start rfl rfl

/-- A step that writes the deadline finds it at 0 or passed, and arms it the interval ahead (43_announce.md R220, R224). -/
theorem step_annDeadline (h : step s = .next t) : t.annDeadline = s.annDeadline ∨
    ((s.annDeadline = 0 ∨ s.annDeadline < t.now) ∧ t.now + s.par.annIntervalUs ≤ t.annDeadline) := by
  obtain ⟨hrearmed, hkept, _⟩ := step_announces h
  by_cases hc : announceCheckNext s ∧ (s.annDeadline = 0 ∨ s.annDeadline < t.now)
  · obtain ⟨hcheck, hdue⟩ := hc
    exact .inr ⟨hdue, hrearmed hcheck hdue⟩
  · exact .inl (hkept hc)

/-- The announce deadline never goes back (43_announce.md R224). -/
theorem step_annDeadline_le (h : step s = .next t) : s.annDeadline ≤ t.annDeadline := by
  rcases step_annDeadline h with he | ⟨_, hle⟩ <;> omega

theorem runSteps_annDeadline_le {u : State} (k : Nat) (h : runSteps k s = .next u) : s.annDeadline ≤ u.annDeadline := by
  induction k generalizing s with
  | zero => cases h; exact le_rfl
  | succ k ih =>
    obtain ⟨t, hstep, hrun⟩ := (runSteps_succ_eq_next_iff k s u).mp h
    exact (step_annDeadline_le hstep).trans (ih hrun)

/-- Admitted parameters have an interval, so that no deadline is armed to 0 (00_scope.md R9). -/
theorem one_le_annIntervalUs (h : step s = .next t) : 1 ≤ s.par.annIntervalUs := by
  obtain ⟨hv, _⟩ := step_cases s t h
  obtain ⟨_, _, _, ⟨_, _, hint⟩, _⟩ := (Params.valid_iff _).mp hv
  exact hint

end

end Sys2Proof.Machine
end

section
/-! The settled statements of 43_announce.md. -/

namespace Sys2Proof.Proofs

open Sys2Proof.Machine Sys2Proof.Safety

/-- Settles O40, with the draw as the jitter. -/
theorem announceCheckArmsOrAsks : Obligations.AnnounceCheckArmsOrAsks := by
  intro s
  have hjitter := drawJitter_le s s.par.annJitterMaxUs
  rw [checkAnnounce_eq_record]
  refine ⟨fun h0 => ⟨_, hjitter, ?_⟩, fun h0 hlt => ⟨_, hjitter, ?_⟩, fun h0 hle => ?_⟩
  · simp [h0]
  · simp [h0, hlt]
  · simp [h0, Nat.not_lt.mpr hle]

/-- Settles O41: the throttle counts before it checks, and the check does not read the count. -/
theorem throttleChecksOnceARound : Obligations.ThrottleChecksOnceARound := by
  intro s hv
  obtain ⟨_, _, _, _, hmod, _⟩ := (Params.valid_iff _).mp hv
  rw [announceThrottle_annCnt]
  refine ⟨Nat.mod_lt _ hmod, Nat.mod_eq_of_lt, fun h => ?_, fun h => ?_, fun h => ?_⟩
  · rw [h, Nat.mod_self]
  · rw [announceThrottle_eq, if_neg h]
  · rw [announceThrottle_eq, if_pos h, checkAnnounce_setAnnCnt, h]

/-- Settles O42: with the heartbeat written as one state the fields can be read off. -/
theorem heartbeatChecksThenRearms : Obligations.HeartbeatChecksThenRearms := by
  intro s h hk hd hr
  rw [exec_timerFire_of_due h (by simp [hk]) hd, hk, timerCallback, heartbeat_of_not_receiving _ (by exact hr)]
  refine ⟨_, rfl, fun ⟨hp, ha⟩ => ?_, fun hq => ?_, rfl, rfl, rfl⟩
  · simp [entry, hp, ha, drawAround]
  · rcases hq with h | h <;> simp [entry, h]

/-- Settles O43: a step asks and moves the deadline only by the check, and arms it the interval ahead, which is not 0. -/
theorem noAnnounceBeforeArmed : Obligations.NoAnnounceBeforeArmed := by
  intro s t h
  obtain ⟨hrearmed, hkept, hasked⟩ := step_announces h
  have hint := one_le_annIntervalUs h
  refine ⟨fun hm => ?_, fun hd => ?_, fun h0 => ⟨fun hd => ?_, fun hc => ?_⟩⟩
  · obtain ⟨hc, hd, _⟩ := hasked.mp hm
    exact ⟨hd, hc⟩
  · have hle := step_annDeadline_le h
    omega
  · by_contra hc
    exact hd ((hkept fun ⟨hcheck, _⟩ => hc hcheck).trans h0)
  · have hle := hrearmed hc (.inl h0)
    omega

/-- Settles O44: a request arms the deadline the interval ahead of it, the deadline never goes back, and the next request
waits until it has passed. -/
theorem announceRequestsAreSpaced : Obligations.AnnounceRequestsAreSpaced := by
  refine ⟨fun s t h h0 hne => ?_, fun s t u v k hst hask hrun huv hagain => ?_⟩
  · obtain ⟨hdue, hle⟩ := (step_annDeadline h).resolve_left hne
    have hlt := hdue.resolve_left h0
    exact ⟨hlt, hle, by omega⟩
  · obtain ⟨hrearmed, _, hasked⟩ := step_announces hst
    obtain ⟨hc, _, hlt⟩ := hasked.mp hask
    obtain ⟨_, _, hpassed⟩ := (step_announces huv).asked.mp hagain
    calc t.now + s.par.annIntervalUs ≤ t.annDeadline := hrearmed hc (.inr hlt)
      _ ≤ u.annDeadline := runSteps_annDeadline_le k hrun
      _ < v.now := hpassed

end Sys2Proof.Proofs
end

section
/-! The control events (44_control.md R240 to R247): what the prologue refuses, which cases a rule ignores, what the reads and
the first INIT leave, and runs in which no event acts. -/

namespace Sys2Proof.Machine

open Sys2Proof.Safety

variable {i : Instr} {s t : State}

/-- The time check comes before both filters (44_control.md R240). -/
theorem exec_of_regression (hw : i.wf = true) (hn : s.input.now < s.now) :
    exec i s = .next (s.markRefused .timeRegression) := by
  rw [exec_eq_runEvent i s hw]
  exact if_pos hn

/-- A read passes both filters, and a halted machine does not latch `NOW` (44_control.md R240). -/
theorem exec_of_isRead (hr : isRead i = true) (hw : i.wf = true) (hn : s.now ≤ s.input.now) :
    exec i s = rule i { s with
      now := if s.halted then s.now else s.input.now, out := [], outcome := .acted } := by
  rw [exec_eq_runEvent i s hw, runEvent, if_neg (Nat.not_lt.mpr hn), hr, beforeInit_of_isRead hr, Bool.or_true,
    if_pos rfl, if_pos rfl]
  by_cases hh : s.halted = true
  · simp only [if_pos hh]
    rfl
  · simp only [if_neg hh]
    rfl

/-- The rule of an event ignores it in the cases of the table (44_control.md R246). -/
theorem ignores_entry_iff (h : live s) : ignores i (entry s) ↔
    i = .init ∨
    ((∃ wh, i = .lineFall wh) ∧ s.rxActive = false ∧ s.txActive = true) ∨
    ((∃ b, i = .rxByte b) ∧ (s.rxActive = false ∨ s.rxCount = s.par.rxSlotBytes)) ∨
    ((∃ e, i = .rxDone e) ∧ s.rxActive = false) ∨
    (i = .timerFire ∧ (s.tmrKind = .none ∨ s.input.now < s.tmrDeadline)) ∨
    ((∃ c, i = .txDone c) ∧ s.txActive = false) := by
  obtain ⟨hi, _, _⟩ := h
  cases i with
  | init => simp [ignores, entry, hi]
  | _ => simp [ignores, entry]

/-- Of the endings of the rules, only the IGNORED one has an outcome that does not act. -/
theorem Effect.ignored_of_actsNot (h : Effect i s t) (ho : s.outcome = .acted) (ha : actsNot t.outcome = true) :
    ignores i s ∧ t = s.ignored := by
  cases h with
  | ignored hg => exact ⟨hg, rfl⟩
  | reentry => simp [actsNot] at ha
  | _ => simp [actsNot, ho] at ha

/-- The outcome of a rule is IGNORED only in the cases of the table; a read always acts. -/
theorem ignores_of_outcome (h : rule i s = .next t) (ho : s.outcome = .acted) (hg : t.outcome = .ignored) :
    ignores i s := by
  cases hr : isRead i
  · obtain ⟨hi, _⟩ := (rule_effect hr h).ignored_of_actsNot ho (by simp [actsNot, hg])
    exact hi
  · obtain ⟨vs, rfl⟩ := rule_read hr h
    exact nomatch ho.symm.trans hg

/-- The first INIT (44_control.md R241). -/
theorem exec_init_of_uninitialized (hi : s.initialized = false) (hh : s.halted = false) (hn : s.now ≤ s.input.now) :
    exec .init s = .next (tickSched { s with
      now := s.input.now, initialized := true, out := [.uartInit], outcome := .acted }) := by
  rw [exec_live .init s rfl (.inr rfl) hh hn]
  exact congrArg _ (if_neg (by simp [hi]))

/-- `TickSched` with nothing to schedule arms the heartbeat (42_tx.md R180). -/
theorem tickSched_of_no_request (hr : s.rxActive = false) (hq : s.txPending = false ∨ s.txActive = true) :
    tickSched s = { s with
      txQueued := false, tmrKind := .heartbeat, tmrDeadline := s.now + s.par.tickUs } := by
  have hb : (s.txPending && !s.txActive) = false := by rcases hq with h | h <;> simp [h]
  rw [tickSched_of_not_receiving s hr]
  simp [hb]

/-- The register map, with BUS_STATE among the addresses that read 0 (10_state.md R43, R52, R54). -/
theorem regValue_eq (s : State) (a : BitVec 8) : regValue s a =
    if a = 0x00#8 then s.status
    else if a = 0x08#8 then s.packetsReceived
    else if a = 0x0C#8 then s.packetsDropped
    else if a = 0x10#8 then s.busLoError
    else if a = 0x14#8 then s.busTimeoutError
    else if a = 0x18#8 then s.busUartError
    else 0#32 := by
  by_cases h : a = 0x04#8
  · subst h
    rfl
  · simp [regValue, h]

/-- REG_READ in any state, halted or not, before INIT or after it (44_control.md R240, R243). -/
theorem exec_regRead {a : BitVec 8} (hw : (Instr.regRead a).wf = true) (hn : s.now ≤ s.input.now) :
    exec (.regRead a) s = .next { s with
      now := if s.halted then s.now else s.input.now
      out := [.readData (regValue s a)]
      outcome := .acted } :=
  exec_of_isRead rfl hw hn

/-- A step that delivers a REG_READ shows the register of the state before it (44_control.md R243). -/
theorem step_regRead {a : BitVec 8} {inp : Input} {rest : List Input} (hv : s.par.valid = true)
    (hp : s.pending = inp :: rest) (hw : (Instr.regRead a).wf = true) (he : inp.word = encode (.regRead a))
    (hn : s.now ≤ inp.now) : step s = .next { s with
      now := if s.halted then s.now else inp.now
      input := inp
      pending := rest
      out := [.readData (regValue s a)]
      outcome := .acted } := by
  rw [step_of_decode_ok hv hp (he ▸ decode_encode hw)]
  exact exec_regRead hw hn

/-- The seven registers of a snapshot, in address order (44_control.md R244). -/
theorem snapshot_values (s : State) : snapshotAddrs.map (fun a => Action.readData (regValue s a)) =
    [.readData s.status, .readData 0#32, .readData s.packetsReceived, .readData s.packetsDropped,
      .readData s.busLoError, .readData s.busTimeoutError, .readData s.busUartError] := by
  simp [snapshotAddrs, regValue_eq]

/-- A step in which no event acts is passive: a rule that ran has ignored its event (44_control.md R246). -/
theorem passive_of_actsNot (h : step s = .next t) (ha : actsNot t.outcome = true) : Passive s t := by
  rcases step_passive_or_effect h with hp | ⟨inp, rest, i, _, _, _, _, he⟩
  · exact hp
  · obtain ⟨_, rfl⟩ := he.ignored_of_actsNot rfl ha
    exact (passive_latched_ignored (s.deliver inp rest)).of_deliver

/-- A run in which no event acts keeps the parameters and every register (44_control.md R247). -/
theorem runSteps_registers_of_actsNot {u : State} (k : Nat) (h : runSteps k s = .next u)
    (ha : ∀ j v, 1 ≤ j → j ≤ k → runSteps j s = .next v → actsNot v.outcome = true) :
    u.par = s.par ∧ ∀ a, regValue u a = regValue s a := by
  induction k generalizing s with
  | zero =>
    cases h
    exact ⟨rfl, fun _ => rfl⟩
  | succ k ih =>
    obtain ⟨t, hst, hrun⟩ := (runSteps_succ_eq_next_iff k s u).mp h
    have later (j : Nat) (v : State) (hv : runSteps j t = .next v) : runSteps (j + 1) s = .next v :=
      (runSteps_succ_eq_next_iff j s v).mpr ⟨t, hst, hv⟩
    have hp : Passive s t := passive_of_actsNot hst (ha 1 t le_rfl (by omega) (later 0 t rfl))
    obtain ⟨hpar, hreg⟩ := ih hrun fun j v _ hj hv => ha (j + 1) v (by omega) (by omega) (later j v hv)
    have hkept : t.par = s.par := by rw [hp.same]
    exact ⟨hpar.trans hkept, fun a => (hreg a).trans (regValue_congr s t a hp.same)⟩

end Sys2Proof.Machine
end

section
/-! The settled statements of 44_control.md. -/

namespace Sys2Proof.Proofs

open Sys2Proof.Machine Sys2Proof.Safety

/-- Settles O14: a rule answers IGNORED exactly in its rows of the table, and then does nothing. -/
theorem ignoredCasesAreTheTable : Obligations.IgnoredCasesAreTheTable := by
  intro s t i h hw hx
  rw [exec_of_live hw h] at hx
  have table : t.outcome = .ignored → ignores i (entry s) := ignores_of_outcome hx rfl
  have frame (hg : ignores i (entry s)) : t = (entry s).ignored := by
    simpa using hx.symm.trans (rule_of_ignores hg)
  rw [← ignores_entry_iff h]
  exact ⟨⟨table, fun hg => congrArg State.outcome (frame hg)⟩, fun hg => frame (table hg)⟩

/-- Settles O50: a read shows STATUS of the state before it, and a run in which no event acts keeps STATUS. -/
theorem queriesArePure : Obligations.QueriesArePure := by
  intro s inp rest hv hp he hn
  refine ⟨_, s.status, step_regRead hv hp rfl he hn, rfl, ?_, ?_, rfl, ?_⟩
  · simp [State.status_eq_concat]
  · simp [State.status_eq_concat]
  · intro k u again later hrun hquiet hp' he' hn'
    obtain ⟨hpar, hreg⟩ := runSteps_registers_of_actsNot k hrun hquiet
    refine ⟨_, step_regRead (hpar ▸ hv) hp' rfl he' hn', ?_⟩
    exact congrArg (fun val => [Action.readData val]) (hreg 0x00#8)

/-- Settles O6, as the step on an accepted word. -/
theorem stepRunsDecodedEvent : Obligations.StepRunsDecodedEvent :=
  fun _ _ _ _ => step_of_decode_ok

/-- Settles O9: no filter and no rule runs before the time check. -/
theorem timeRegressionIsRefused : Obligations.TimeRegressionIsRefused :=
  fun _ _ => exec_of_regression

/-- Settles O15: the first INIT ends in `TickSched`, which arms the heartbeat when there is nothing to schedule. -/
theorem initArmsFirstHeartbeat : Obligations.InitArmsFirstHeartbeat := by
  refine ⟨fun s => exec_init_of_uninitialized, fun s hi hh hn hr hq => ?_⟩
  rw [exec_init_of_uninitialized hi hh hn]
  exact congrArg _ (tickSched_of_no_request hr hq)

/-- Settles O45: both cases are rows of the table of IGNORED cases. -/
theorem earlyTimerFireIsIgnored : Obligations.EarlyTimerFireIsIgnored := by
  intro s h hg
  rw [exec_of_live rfl h]
  exact rule_of_ignores (i := .timerFire) hg

/-- Settles O46: a read passes both filters and emits the register of the state before it. -/
theorem regReadFollowsRegisterMap : Obligations.RegReadFollowsRegisterMap := by
  intro s a hw hn
  rw [exec_regRead hw hn, regValue_eq]

/-- Settles O48: a snapshot passes both filters, and an emitted value changes no register. -/
theorem snapshotIsConsistent : Obligations.SnapshotIsConsistent := by
  intro s hn
  rw [exec_of_isRead rfl rfl hn, rule, diagSnapshot_eq, snapshot_values]
  rfl

end Sys2Proof.Proofs
end

section
/-! Faults (60_exceptions.md R260 to R266): the fault actions of a step's output list, the table of the faults each event can
raise, and the two facts about them that every ending of a rule keeps. -/

namespace Sys2Proof.Machine

open Sys2Proof.Safety

/-- The faults among the outputs of the last step, in order (60_exceptions.md R260). -/
def State.faults (s : State) : List Action := s.out.filter isFault

/-- The table of the faults that an event can raise in a state (60_exceptions.md R262). -/
inductive FaultRow : Instr → State → Action → Prop
  | reentry {wh s} : FaultRow (.lineFall wh) s (.faultFatal .rxReentry)
  | failedWait {s} : FaultRow (.lineFall false) s (.faultNonFatal .rxTimeout)
  | completion {err s c} (hc : c = .rxUart ∨ c = .rxShort ∨ c = .rxCrc) :
      FaultRow (.rxDone err) s (.faultNonFatal c)
  | timeout {s} (hk : (s.tmrKind = .hdrGuard ∧ s.rxCount = 0) ∨ s.tmrKind = .rxDeadline) :
      FaultRow .timerFire s (.faultNonFatal .rxTimeout)
  | race {s} (hk : s.tmrKind = .pulse) : FaultRow .timerFire s (.faultNonFatal .txRace)

section

variable {i : Instr} {s t : State} {a : Action}

theorem State.mem_faults : a ∈ s.faults ↔ a ∈ s.out ∧ isFault a = true := List.mem_filter

/-- The faults of outputs that go on from those of another state: its own, then those appended. -/
theorem State.faults_of_append {l : List Action} (h : t.out = s.out ++ l) : t.faults = s.faults ++ l.filter isFault := by
  rw [State.faults, h, List.filter_append, State.faults]

/-- An announce request is no fault. -/
theorem State.faults_of_announce (h : t.out = s.out ∨ t.out = s.out ++ [.appAnnounceReq]) : t.faults = s.faults := by
  rcases h with h | h
  · exact congrArg (List.filter isFault) h
  · exact (State.faults_of_append h).trans (List.append_nil _)

/-- A reception that times out raises the receive timeout (41_rx.md R146). -/
theorem rxTimedOut_faults (s : State) : (rxTimedOut s).faults = s.faults ++ [.faultNonFatal .rxTimeout] :=
  State.faults_of_append (rxTimedOut_out s)

/-- A dropped frame raises its receive error after what the completion emitted, which is no fault (41_rx.md R147). -/
theorem rxError_completeReception_faults (s : State) (c : NonFatalCode) :
    (rxError (completeReception s) c).faults = s.faults ++ [.faultNonFatal c] := by
  rw [← State.faults_of_announce (completeReception_out s)]
  exact State.faults_of_append (rxError_out _ c)

/-- A frame that is handed over raises nothing (41_rx.md R147). -/
theorem handOff_completeReception_faults (s : State) (ix : SlotIx) (n : Nat) :
    (handOff (completeReception s) ix n).faults = s.faults :=
  calc (handOff (completeReception s) ix n).faults
    _ = (completeReception s).faults ++ [] := State.faults_of_append (handOff_out _ ix n)
    _ = s.faults := (List.append_nil _).trans (State.faults_of_announce (completeReception_out s))

/-- A pulse raises nothing, or the start race alone (42_tx.md R183). -/
theorem arbPulse_faults (ho : s.out = []) :
    (arbPulse s).faults = [] ∨ (arbPulse s).faults = [.faultNonFatal .txRace] := by
  rcases arbPulse_cases s with
    ⟨_, e⟩ | ⟨_, _, _, _, e⟩ | ⟨_, _, f, pulls, hpulls, ⟨_, e⟩ | ⟨_, e⟩⟩
  · exact .inl (by simp [e, State.faults, ho])
  · exact .inl (by simp [e, State.faults, ho, isFault])
  · rcases hpulls with ⟨_, rfl⟩ | ⟨_, _, rfl⟩ <;> exact .inl (by simp [e, State.faults, ho, isFault])
  · rcases hpulls with ⟨_, rfl⟩ | ⟨_, _, rfl⟩ <;> exact .inr (by simp [e, State.faults, ho, isFault])

/-- Every ending of a rule raises no fault, or exactly one, which the table names for the event (60_exceptions.md R262,
R266). -/
theorem Effect.faults (h : Effect i s t) (ho : s.out = []) :
    t.faults = [] ∨ ∃ a, t.faults = [a] ∧ FaultRow i s a := by
  have hnone : s.faults = [] := congrArg (List.filter isFault) ho
  cases h with
  | reentry => exact .inr ⟨_, by simp [State.faults, ho, isFault], .reentry⟩
  | failedWait => exact .inr ⟨_, by rw [rxTimedOut_faults]; simp [State.faults, ho], .failedWait⟩
  | drop _ hc => exact .inr ⟨_, by rw [rxError_completeReception_faults, hnone, List.nil_append], .completion hc⟩
  | dispatch => exact .inl ((handOff_completeReception_faults ..).trans hnone)
  | heartbeat => exact .inl ((State.faults_of_announce (heartbeat_out _)).trans hnone)
  | pulse hk => exact (arbPulse_faults (s := { s with tmrKind := .none }) ho).imp_right fun e => ⟨_, e, .race hk⟩
  | timeout _ hk => exact .inr ⟨_, by rw [rxTimedOut_faults]; simp [State.faults, ho], .timeout hk⟩
  | sent =>
    exact .inl ((State.faults_of_announce (announceThrottle_out _)).trans (by simp [State.faults, ho, isFault]))
  | _ => exact .inl (by simp [State.faults, ho, isFault])

/-- A passive event emits reads at most, and a read is no fault. -/
theorem Passive.faults (h : Passive s t) : t.faults = [] := by
  refine List.filter_eq_nil_iff.mpr fun a ha => ?_
  obtain ⟨v, rfl⟩ := h.reads a ha
  exact Bool.false_ne_true

/-- The fault in an event's outputs is one that the table names for it, in the state the rule starts from (60_exceptions.md
R262). -/
theorem exec_faultRow (h : exec i s = .next t) (ha : a ∈ t.faults) : FaultRow i (entry s) a := by
  rcases exec_passive_or_effect h with ⟨hp, _⟩ | ⟨_, _, _, he⟩
  · exact absurd (hp.faults ▸ ha) List.not_mem_nil
  · rcases he.faults rfl with hnone | ⟨b, hone, hrow⟩
    · exact absurd (hnone ▸ ha) List.not_mem_nil
    · obtain rfl : a = b := List.mem_singleton.mp (hone ▸ ha)
      exact hrow

end

end Sys2Proof.Machine

namespace Sys2Proof.Proofs

open Sys2Proof.Machine

/-- Settles O53: the rows of the table are the cases of the statement, and the prologue changes neither the timer nor the byte
count that they test. -/
theorem faultsByEvent : Obligations.FaultsByEvent := by
  intro s t i a h hmem hfault
  cases exec_faultRow h (State.mem_faults.mpr ⟨hmem, hfault⟩) with
  | reentry => exact .inl ⟨⟨_, rfl⟩, rfl⟩
  | failedWait => exact .inr (.inl ⟨rfl, rfl⟩)
  | completion hc => exact .inr (.inr (.inl ⟨⟨_, rfl⟩, by simpa using hc⟩))
  | timeout hk => exact .inr (.inr (.inr (.inl ⟨rfl, hk, rfl⟩)))
  | race hk => exact .inr (.inr (.inr (.inr ⟨rfl, hk, rfl⟩)))

/-- Settles O54: a passive step raises no fault, and an ending of a rule at most one. -/
theorem atMostOneFaultAStep : Obligations.AtMostOneFaultAStep := by
  intro s t h
  change t.faults.length ≤ 1
  rcases step_passive_or_effect h with hp | ⟨_, _, _, _, _, _, _, he⟩
  · simp [hp.faults]
  · rcases he.faults rfl with hnone | ⟨_, hone, _⟩
    · simp [hnone]
    · simp [hone]

end Sys2Proof.Proofs
end

section
/-! Reset and boot (70_reset_and_hazards.md R290 to R292): what reset leaves, the step without an event, and what holds of the
parameters and of the latched time across every step. -/

namespace Sys2Proof.Machine

open Sys2Proof.Safety

/-- Both slots are empty after reset, and a cell that was never written reads 0 (70_reset_and_hazards.md R290). -/
theorem fromReset_slotByte (p : Params) (es : List Input) (ix : SlotIx) (k : Nat) :
    (fromReset p es).slotByte ix k = 0#8 := by
  cases ix <;> exact readCell_nil k

/-- All bits of STATUS are clear after reset, BUSY and STARTED included (70_reset_and_hazards.md R290). -/
theorem fromReset_status (p : Params) (es : List Input) : (fromReset p es).status = 0#32 := by
  simp [State.status, State.busy, State.started, fromReset, State.reset]

/-- A machine with nothing to deliver waits (log 2). -/
theorem step_of_pending_nil {s : State} (hv : s.par.valid = true) (hp : s.pending = []) :
    step s = .next s.waitIdle := by
  simp only [step, hv, hp, if_true]

/-- The prologue latches a time that is not below the old one, or keeps the old one, and no rule writes the time or the
parameters (44_control.md R240). -/
theorem exec_par_now {i : Instr} {s t : State} (h : exec i s = .next t) : t.par = s.par ∧ s.now ≤ t.now := by
  rcases exec_cases i s t h with ⟨_, rfl, _⟩ | ⟨_, _, _, hx⟩ | ⟨_, _, _, rfl⟩ | ⟨hle, _, _, hx⟩ | ⟨hle, _, _, _, rfl⟩
  · exact ⟨rfl, le_rfl⟩
  · exact (rule_par_now hx).imp_right Eq.ge
  · exact ⟨rfl, le_rfl⟩
  · exact (rule_par_now hx).imp_right fun hnow => hle.trans hnow.ge
  · exact ⟨rfl, hle⟩

end Sys2Proof.Machine
end

section
/-! The settled statements of 70_reset_and_hazards.md. -/

namespace Sys2Proof.Proofs

open Sys2Proof.Machine Sys2Proof.Safety

/-- Settles O11: a step that waits or refuses a word writes neither field, and any other step runs one event. -/
theorem stepKeepsParametersAndTime : Obligations.StepKeepsParametersAndTime := by
  intro s t h
  obtain ⟨_, ⟨_, rfl⟩ | ⟨inp, rest, _, ⟨_, _, rfl⟩ | ⟨_, _, hx⟩⟩⟩ := step_cases s t h
  · exact ⟨rfl, le_rfl⟩
  · exact ⟨rfl, le_rfl⟩
  · exact exec_par_now (s := s.deliver inp rest) hx

/-- Settles O7, as the step of a machine with nothing to deliver. -/
theorem noPendingEventWaits : Obligations.NoPendingEventWaits :=
  fun _ => step_of_pending_nil

/-- Settles O55: the fields have the values of the table as reset writes them; the slots and STATUS are read from those
fields. -/
theorem resetLeavesTableAndInvariant : Obligations.ResetLeavesTableAndInvariant := by
  rintro p es hv _ rfl
  exact ⟨⟨rfl, rfl, rfl, rfl, rfl⟩, fromReset_slotByte p es, rfl, rfl, ⟨rfl, rfl⟩, ⟨rfl, rfl, rfl, rfl, rfl, rfl⟩,
    ⟨rfl, rfl⟩, ⟨rfl, rfl, rfl, rfl⟩, fromReset_status p es, fromReset_inv es hv⟩

end Sys2Proof.Proofs
end
